-- ==== Sys2Proof/Word.lean ====
section
/-! DEFINITION. The word types of the block: the widths of 00_scope.md R8 (`RNG_W`) and R9 (`CW`, `IW`, `STEP_W`, `NOTE_W`,
`VAL_W`, `BEAT_W`). Every value is an unsigned integer and arithmetic is modulo 2^width (R11), which is what `BitVec` gives. -/

namespace Sys2Proof

/-- One byte, used only by the serialised form of the tables (20_memory.md R64). -/
abbrev Byte := BitVec 8

/-- `CW` = `RNG_W` = 32 bits (00_scope.md R8, R9): the counters, thresholds and the deadline, and the generator. -/
abbrev Word := BitVec 32

/-- `IW` = 8 bits (00_scope.md R9): table indices and repeat counters. -/
abbrev Index := BitVec 8

/-- One table element of 16 bits: `STEP_W` = `NOTE_W` = `VAL_W` = `BEAT_W` (00_scope.md R9). -/
abbrev Elem := BitVec 16

/-- A 2-bit selection register's value (30_encoding.md R90). -/
abbrev Sel := BitVec 2

end Sys2Proof
end

