-- ==== Sys2Proof/Config.lean ====
section
/-! DEFINITION. What is fixed for one device, and what the spec leaves open: the tables and parameters of 00_scope.md R10
(OPEN: opaque constants, within the limits R10 sets) and the free choice of the agent that moves next (60_exceptions.md R167). -/

namespace Sys2Proof

/-- A melody record: one beat-length and the list of NOTE entries; it has no further field (30_encoding.md R83). -/
structure Melody where
  beat  : Elem
  notes : List Elem
  deriving DecidableEq, Repr

/-- The three read-only table spaces (20_memory.md R60): `PATTERN[0..2]`, `MELODY[0..1]`, `NOTE_VAL[0..9]`. -/
structure Memory where
  pattern : Vector (List Elem) 3
  melody  : Vector Melody 2
  noteVal : Vector Elem 10
  deriving DecidableEq, Repr

/-- The parameters of 00_scope.md R10. No rule reads `tickReload` or `startupTicks`. -/
structure Params where
  seed         : Word
  mem          : Memory
  tickReload   : Nat
  startupTicks : Nat
  deriving DecidableEq, Repr

/-- The spaces a table address can name (20_memory.md R61). -/
inductive Space
  | pattern | melody | melodyBeat | noteVal
  deriving DecidableEq, Repr

/-- A table address: the triple (space, selector, index) of 20_memory.md R61; there is no flat numeric address. -/
structure TableAddr where
  space    : Space
  selector : Nat
  index    : Nat
  deriving DecidableEq, Repr

/-- Who moves next: the reset input, or one of the three agents of 60_exceptions.md R160 (the tick source's fire, the interrupt
context's tick step, the main context's sub-step). -/
inductive Choice
  | reset | fire | tick | main
  deriving DecidableEq, Repr, Inhabited

namespace Config

/-- `SEED - 1`: OPEN (00_scope.md R10, 91_not_in_source.md N1). Every value gives a non-zero seed. Log entry 1. -/
opaque seedLessOne : Fin 4294967295

/-- `PATTERN[0]`, first word and the rest: OPEN (00_scope.md R10, N2). Log entry 1. -/
opaque pattern0 : Elem × List Elem

/-- `PATTERN[1]`, first word and the rest: OPEN (00_scope.md R10, N2). Log entry 1. -/
opaque pattern1 : Elem × List Elem

/-- `PATTERN[2]`: OPEN but for its length, 8 (00_scope.md R10). Log entry 1. -/
opaque pattern2 : Vector Elem 8

/-- `MELODY[0]`: its beat, first entry and the rest: OPEN (00_scope.md R10, N2). Log entry 1. -/
opaque melody0 : Elem × Elem × List Elem

/-- `MELODY[1]`: its beat, first entry and the rest: OPEN (00_scope.md R10, N2). Log entry 1. -/
opaque melody1 : Elem × Elem × List Elem

/-- `NOTE_VAL[1..9]`: OPEN (00_scope.md R10, N2); `NOTE_VAL[0]` is 0. Log entry 1. -/
opaque toneVal : Vector Elem 9

/-- `TICK_RELOAD`: OPEN and read by no rule (00_scope.md R10, N5). Log entry 1. -/
opaque tickReload : Nat

/-- The agent that moves at the `n`-th free choice: the spec fixes no order (60_exceptions.md R167). Log entry 2. -/
opaque freeChoice : Nat → Choice

/-- A table of 1 to 255 words (00_scope.md R10) from a first word and a list. -/
def boundedTable (first : Elem) (rest : List Elem) : List Elem := first :: rest.take 254

/-- The device's tables, whatever they are, within the limits of 00_scope.md R10. -/
def memory : Memory where
  pattern := #v[boundedTable pattern0.1 pattern0.2, boundedTable pattern1.1 pattern1.2, pattern2.toList]
  melody := #v[⟨melody0.1, boundedTable melody0.2.1 melody0.2.2⟩, ⟨melody1.1, boundedTable melody1.2.1 melody1.2.2⟩]
  noteVal := #v[0, toneVal[0], toneVal[1], toneVal[2], toneVal[3], toneVal[4], toneVal[5], toneVal[6], toneVal[7], toneVal[8]]

/-- The device's parameters (00_scope.md R10). `STARTUP_TICKS` = 40000 (R10, 44_main_loop.md R155). -/
def params : Params where
  seed := BitVec.ofNat 32 (seedLessOne.val + 1)
  mem := memory
  tickReload := tickReload
  startupTicks := 40000

end Config

end Sys2Proof
end

