-- ==== Sys2Proof/Syntax.lean ====
section
/-! DEFINITION. The 23 rows of spec/opcode_table.json (30_encoding.md R95): six operations of format `OP3`, the one `STEP16` word
and sixteen `NOTE16` entries, one per symbol code. -/

namespace Sys2Proof

/-- The three word formats (30_encoding.md R80). A word's format is known from the table it came from (R89). -/
inductive Format
  | op3 | step16 | note16
  deriving DecidableEq, Repr

/-- One row of the opcode table with its operands. `lines` and `mult` are the fields of 30_encoding.md R81, `du` that of R82. -/
inductive Instr
  | reset
  | tick
  | poll
  | advance
  | dispatch
  | next
  | step (lines : BitVec 9) (mult : BitVec 7)
  | noteRest (du : BitVec 12)
  | noteS1 (du : BitVec 12)
  | noteS2 (du : BitVec 12)
  | noteS3 (du : BitVec 12)
  | noteS4 (du : BitVec 12)
  | noteS5 (du : BitVec 12)
  | noteS6 (du : BitVec 12)
  | noteS7 (du : BitVec 12)
  | noteS8 (du : BitVec 12)
  | noteS9 (du : BitVec 12)
  | noteX10 (du : BitVec 12)
  | noteX11 (du : BitVec 12)
  | noteX12 (du : BitVec 12)
  | noteX13 (du : BitVec 12)
  | noteX14 (du : BitVec 12)
  | noteX15 (du : BitVec 12)
  deriving DecidableEq, Repr

/-- The format a row belongs to (30_encoding.md R95). -/
def Instr.format : Instr → Format
  | .reset => .op3
  | .tick => .op3
  | .poll => .op3
  | .advance => .op3
  | .dispatch => .op3
  | .next => .op3
  | .step _ _ => .step16
  | .noteRest _ => .note16
  | .noteS1 _ => .note16
  | .noteS2 _ => .note16
  | .noteS3 _ => .note16
  | .noteS4 _ => .note16
  | .noteS5 _ => .note16
  | .noteS6 _ => .note16
  | .noteS7 _ => .note16
  | .noteS8 _ => .note16
  | .noteS9 _ => .note16
  | .noteX10 _ => .note16
  | .noteX11 _ => .note16
  | .noteX12 _ => .note16
  | .noteX13 _ => .note16
  | .noteX14 _ => .note16
  | .noteX15 _ => .note16

end Sys2Proof
end

