-- ==== Sys2Proof/WellFormed.lean ====
section
/-! DEFINITION. Well-formedness. Every field of an `Instr` is a bit vector of exactly its field's width (30_encoding.md R81, R82),
so every term of `Instr` is an instruction of the table and there is nothing to check there. What can be ill-formed is a
configuration: the constraints of 00_scope.md R10, which are what must be in place before the rules hold
(70_reset_and_hazards.md R182). -/

namespace Sys2Proof

/-- A table length within 1..255 (00_scope.md R9, R10). -/
def lengthOk (n : Nat) : Bool := decide (1 ≤ n) && decide (n ≤ 255)

/-- The tables are within the limits of 00_scope.md R10: lengths 1 to 255, `len(PATTERN[2]) = 8`, `NOTE_VAL[0] = 0`. This is the
form the machine's memory has; no operation writes a table (20_memory.md R60), so every operation keeps it. -/
def Memory.wf (m : Memory) : Bool :=
  lengthOk m.pattern[0].length && lengthOk m.pattern[1].length && decide (m.pattern[2].length = 8) &&
    lengthOk m.melody[0].notes.length && lengthOk m.melody[1].notes.length && decide (m.noteVal[0] = 0)

/-- A configuration the spec admits: `SEED != 0` (00_scope.md R10, 93_implementation_defined.md U2) and tables within limits. -/
def Params.wf (p : Params) : Bool := decide (p.seed ≠ 0) && p.mem.wf

end Sys2Proof
end

