-- ==== Sys2Proof/Decode.lean ====
section
/-! DEFINITION. The decoder and the encoder of the three word formats (30_encoding.md R80 to R95), and the opcode table's rows. -/

namespace Sys2Proof

/-- Bits 8:0 of a STEP word (30_encoding.md R81). -/
def stepLines (w : Elem) : BitVec 9 := w.extractLsb' 0 9

/-- Bits 15:9 of a STEP word (30_encoding.md R81). -/
def stepMult (w : Elem) : BitVec 7 := w.extractLsb' 9 7

/-- Bits 3:0 of a NOTE entry (30_encoding.md R82). -/
def noteSym (e : Elem) : BitVec 4 := e.extractLsb' 0 4

/-- Bits 15:4 of a NOTE entry (30_encoding.md R82). -/
def noteDu (e : Elem) : BitVec 12 := e.extractLsb' 4 12

/-- Every 16-bit word is a STEP word (30_encoding.md R81). -/
def decodeStep (w : Elem) : Instr := .step (stepLines w) (stepMult w)

/-- The NOTE row of a symbol code, bit 3 first as in the table's encodings (30_encoding.md R85, R95). -/
def noteOf (sym : BitVec 4) (du : BitVec 12) : Instr :=
  match sym.getLsbD 3, sym.getLsbD 2, sym.getLsbD 1, sym.getLsbD 0 with
  | false, false, false, false => .noteRest du
  | false, false, false, true => .noteS1 du
  | false, false, true, false => .noteS2 du
  | false, false, true, true => .noteS3 du
  | false, true, false, false => .noteS4 du
  | false, true, false, true => .noteS5 du
  | false, true, true, false => .noteS6 du
  | false, true, true, true => .noteS7 du
  | true, false, false, false => .noteS8 du
  | true, false, false, true => .noteS9 du
  | true, false, true, false => .noteX10 du
  | true, false, true, true => .noteX11 du
  | true, true, false, false => .noteX12 du
  | true, true, false, true => .noteX13 du
  | true, true, true, false => .noteX14 du
  | true, true, true, true => .noteX15 du

/-- Every 16-bit word is a NOTE entry (30_encoding.md R82). -/
def decodeNote (e : Elem) : Instr := noteOf (noteSym e) (noteDu e)

/-- The operation of an OP3 code, bit 2 first; 110 and 111 are reserved and refused (30_encoding.md R84, R88). -/
def decodeOp (c : BitVec 3) : Option Instr :=
  match c.getLsbD 2, c.getLsbD 1, c.getLsbD 0 with
  | false, false, false => some .reset
  | false, false, true => some .tick
  | false, true, false => some .poll
  | false, true, true => some .advance
  | true, false, false => some .dispatch
  | true, false, true => some .next
  | true, true, false => none
  | true, true, true => none

/-- Why bytes do not decode. -/
inductive DecodeError
  /-- Fewer bytes than the format's fixed length (30_encoding.md R80). Safe: nothing runs. -/
  | truncated
  /-- An OP3 code 110 or 111 (30_encoding.md R88). Safe: nothing runs. -/
  | reservedOp (code : BitVec 3)
  /-- A byte that holds an OP3 code and has a bit set above bit 2 (log entry 15). Safe: nothing runs. -/
  | opByteTooWide (b : Byte)
  deriving DecidableEq, Repr

/-- Decode the first word of a list of bytes as a word of the given format, and give the bytes after it. A 16-bit word is stored
low byte first (20_memory.md R64); an OP3 code stands in the low three bits of one byte (log entry 15). -/
def decodeBytes (f : Format) (bs : List Byte) : Except DecodeError (Instr × List Byte) :=
  match f, bs with
  | .op3, b :: rest =>
    if b.extractLsb' 3 5 = 0#5 then
      match decodeOp (b.extractLsb' 0 3) with
      | some i => .ok (i, rest)
      | none => .error (.reservedOp (b.extractLsb' 0 3))
    else .error (.opByteTooWide b)
  | .step16, b0 :: b1 :: rest => .ok (decodeStep (b1 ++ b0), rest)
  | .note16, b0 :: b1 :: rest => .ok (decodeNote (b1 ++ b0), rest)
  | .op3, [] => .error .truncated
  | .step16, [] => .error .truncated
  | .step16, [_] => .error .truncated
  | .note16, [] => .error .truncated
  | .note16, [_] => .error .truncated

/-- What the decoder reads from a table row's bits. `nbits` is 8 for the OP3 rows and 16 for the STEP and NOTE rows. A 16-bit word
carries nothing that says which table it came from (30_encoding.md R89); a bare one is read here as a NOTE entry (log entry 13). -/
def decodeTableWord (nbits w : Nat) : Option Instr :=
  if nbits ≤ 8 then
    if w < 8 then decodeOp (BitVec.ofNat 3 w) else none
  else if nbits ≤ 16 then
    if w < 65536 then some (decodeNote (BitVec.ofNat 16 w)) else none
  else none

/-- The word of an instruction; an OP3 code is extended with zeros to 16 bits (30_encoding.md R81, R82, R84, R85). -/
def encodeWord : Instr → Elem
  | .reset => 0b000
  | .tick => 0b001
  | .poll => 0b010
  | .advance => 0b011
  | .dispatch => 0b100
  | .next => 0b101
  | .step lines mult => mult ++ lines
  | .noteRest du => du ++ 0#4
  | .noteS1 du => du ++ 1#4
  | .noteS2 du => du ++ 2#4
  | .noteS3 du => du ++ 3#4
  | .noteS4 du => du ++ 4#4
  | .noteS5 du => du ++ 5#4
  | .noteS6 du => du ++ 6#4
  | .noteS7 du => du ++ 7#4
  | .noteS8 du => du ++ 8#4
  | .noteS9 du => du ++ 9#4
  | .noteX10 du => du ++ 10#4
  | .noteX11 du => du ++ 11#4
  | .noteX12 du => du ++ 12#4
  | .noteX13 du => du ++ 13#4
  | .noteX14 du => du ++ 14#4
  | .noteX15 du => du ++ 15#4

/-- A 16-bit word as its two bytes, low byte first (20_memory.md R64). -/
def elemBytes (w : Elem) : List Byte := [w.extractLsb' 0 8, w.extractLsb' 8 8]

/-- The bytes of an instruction: one for an OP3 code, two for a table word. -/
def encode (i : Instr) : List Byte :=
  match i.format with
  | .op3 => [(encodeWord i).extractLsb' 0 8]
  | .step16 => elemBytes (encodeWord i)
  | .note16 => elemBytes (encodeWord i)

/-- One row of the opcode table: a word `w` of the row's format selects it when `w and mask = match` (30_encoding.md R95). -/
structure TableRow where
  mnemonic  : String
  format    : Format
  width     : Nat
  matchBits : Elem
  mask      : Elem
  deriving DecidableEq, Repr

/-- The 23 rows of the opcode table, in its order (30_encoding.md R95). -/
def opcodeTable : List TableRow :=
  [⟨"RESET", .op3, 3, 0x0, 0x7⟩,
    ⟨"TICK", .op3, 3, 0x1, 0x7⟩,
    ⟨"POLL", .op3, 3, 0x2, 0x7⟩,
    ⟨"ADVANCE", .op3, 3, 0x3, 0x7⟩,
    ⟨"DISPATCH", .op3, 3, 0x4, 0x7⟩,
    ⟨"NEXT", .op3, 3, 0x5, 0x7⟩,
    ⟨"STEP", .step16, 16, 0x0000, 0x0000⟩] ++
  [ ⟨"NOTE.REST", .note16, 16, 0x0000, 0x000F⟩,
    ⟨"NOTE.S1", .note16, 16, 0x0001, 0x000F⟩,
    ⟨"NOTE.S2", .note16, 16, 0x0002, 0x000F⟩,
    ⟨"NOTE.S3", .note16, 16, 0x0003, 0x000F⟩,
    ⟨"NOTE.S4", .note16, 16, 0x0004, 0x000F⟩,
    ⟨"NOTE.S5", .note16, 16, 0x0005, 0x000F⟩,
    ⟨"NOTE.S6", .note16, 16, 0x0006, 0x000F⟩,
    ⟨"NOTE.S7", .note16, 16, 0x0007, 0x000F⟩,
    ⟨"NOTE.S8", .note16, 16, 0x0008, 0x000F⟩,
    ⟨"NOTE.S9", .note16, 16, 0x0009, 0x000F⟩,
    ⟨"NOTE.X10", .note16, 16, 0x000A, 0x000F⟩,
    ⟨"NOTE.X11", .note16, 16, 0x000B, 0x000F⟩,
    ⟨"NOTE.X12", .note16, 16, 0x000C, 0x000F⟩,
    ⟨"NOTE.X13", .note16, 16, 0x000D, 0x000F⟩,
    ⟨"NOTE.X14", .note16, 16, 0x000E, 0x000F⟩,
    ⟨"NOTE.X15", .note16, 16, 0x000F, 0x000F⟩]

/-- A word of a format selects a row. -/
def TableRow.selectedBy (r : TableRow) (f : Format) (w : Elem) : Bool :=
  decide (r.format = f) && decide (w &&& r.mask = r.matchBits)

/-- The mnemonic of an instruction as the opcode table spells it. -/
def mnemonicOf : Instr → String
  | .reset => "RESET"
  | .tick => "TICK"
  | .poll => "POLL"
  | .advance => "ADVANCE"
  | .dispatch => "DISPATCH"
  | .next => "NEXT"
  | .step _ _ => "STEP"
  | .noteRest _ => "NOTE.REST"
  | .noteS1 _ => "NOTE.S1"
  | .noteS2 _ => "NOTE.S2"
  | .noteS3 _ => "NOTE.S3"
  | .noteS4 _ => "NOTE.S4"
  | .noteS5 _ => "NOTE.S5"
  | .noteS6 _ => "NOTE.S6"
  | .noteS7 _ => "NOTE.S7"
  | .noteS8 _ => "NOTE.S8"
  | .noteS9 _ => "NOTE.S9"
  | .noteX10 _ => "NOTE.X10"
  | .noteX11 _ => "NOTE.X11"
  | .noteX12 _ => "NOTE.X12"
  | .noteX13 _ => "NOTE.X13"
  | .noteX14 _ => "NOTE.X14"
  | .noteX15 _ => "NOTE.X15"

end Sys2Proof
end

