-- ==== Sys2Proof/Machine/State.lean ====
section
/-! DEFINITION. The machine's state: the 24 registers of 10_state.md R20, the constant tables, and the model's own fields; the two
ways a step can stop; and the state after RESET (70_reset_and_hazards.md R180). -/

namespace Sys2Proof.Machine

/-- The main context's position, `MPH`: the sub-step it performs next (10_state.md R33). The codes are 30_encoding.md R92. -/
inductive MainPhase
  | boot | p1 | a1 | a2 | a3 | a4 | a5 | p2 | s1 | s2 | s3 | s4
  deriving DecidableEq, Repr

/-- The playback phase, encoded by `PLAYING` and `INSIL` (10_state.md R27). -/
inductive Phase
  | idle | active | postSilence
  deriving DecidableEq, Repr

/-- One outside event not yet taken: a turn of the reset input or of an agent (60_exceptions.md R160), or one element of an event
trace, an OP3 code (30_encoding.md R84). -/
inductive Event
  | turn (c : Choice)
  | op (code : BitVec 3)
  deriving DecidableEq, Repr

/-- The faults of the block: none. The block raises no synchronous exception and its table of causes is empty
(60_exceptions.md R170), so no meaning raises one. Safe: nothing is turned into a fault. -/
inductive Fault
  deriving DecidableEq, Repr

/-- Where the model gives a step no meaning. Only what the spec itself refuses stands here. -/
inductive Refusal
  /-- Raised by `exec` for an instruction that has no meaning yet. Safe: nothing runs. No arm raises it. -/
  | notModelled (mnemonic : String)
  /-- Raised by `step` for a trace element 110 or 111 (30_encoding.md R88, 93_implementation_defined.md U6). Safe: nothing runs. -/
  | reservedOp (code : BitVec 3)
  /-- Raised by DISPATCH, and by a NOTE entry run on its own, when `PLAYING = 1` (93_implementation_defined.md U3). Safe: nothing
  runs. -/
  | dispatchWhilePlaying
  /-- Raised by a table read outside the ranges of 20_memory.md R61 (93_implementation_defined.md U5, U6). Safe: nothing runs. -/
  | tableReadOutOfRange (a : TableAddr)
  /-- Raised by a cursor move when the selection names no table, so that there is no length to compare with
  (93_implementation_defined.md U5, U6). Safe: nothing runs. -/
  | noTableSelected (space : Space) (selector : Sel)
  deriving DecidableEq, Repr

/-- The machine's state. The first 24 fields are the registers of 10_state.md R20, in its order; a 1-bit register is a `Bool`. -/
structure State where
  /-- `RNG` -/
  rng      : Word
  /-- `PSEL` -/
  psel     : Sel
  /-- `PIDX` -/
  pidx     : Index
  /-- `PREP` -/
  prep     : Index
  /-- `PTGT` -/
  ptgt     : Index
  /-- `DEADLINE` -/
  deadline : Word
  /-- `LED`, shown by port `led_o` (60_exceptions.md R177) -/
  led      : BitVec 9
  /-- `MSEL` -/
  msel     : Sel
  /-- `MIDX` -/
  midx     : Index
  /-- `BEAT` -/
  beat     : Elem
  /-- `T_HP` -/
  tHp      : Word
  /-- `T_AD` -/
  tAd      : Word
  /-- `T_PS` -/
  tPs      : Word
  /-- `PLAYING` -/
  playing  : Bool
  /-- `LTICK` -/
  ltick    : Word
  /-- `DCNT` -/
  dcnt     : Word
  /-- `SCNT` -/
  scnt     : Word
  /-- `OCNT` -/
  ocnt     : Word
  /-- `INSIL` -/
  insil    : Bool
  /-- `BUZ`, shown by port `buz_o` (60_exceptions.md R177) -/
  buz      : Bool
  /-- `IEN` -/
  ien      : Bool
  /-- `TPEND` -/
  tpend    : Bool
  /-- `TARM` -/
  tarm     : Bool
  /-- `MPH` -/
  mph      : MainPhase
  /-- the main context's local value `hit`, carried from S2 to S3 (42_tone_scheduler.md R120; log entry 6) -/
  hit      : Bool
  /-- the constant tables and parameters (00_scope.md R10; log entry 1) -/
  cfg      : Params
  /-- the MODEL's own: outside events not yet taken, the next first (log entry 2) -/
  sched    : List Event
  /-- the MODEL's own: how many free choices have been used (log entry 2) -/
  draw     : Nat
  deriving DecidableEq, Repr

/-- NONE, the selection code 3 of `PSEL` and `MSEL` (30_encoding.md R90). -/
abbrev selNone : Sel := 3#2

/-- The state after RESET of a device with the given parameters (70_reset_and_hazards.md R180). -/
def State.resetOf (c : Params) : State where
  rng := c.seed
  psel := selNone
  pidx := 0
  prep := 0
  ptgt := 0
  deadline := 0
  led := 0
  msel := selNone
  midx := 0
  beat := 0
  tHp := 0
  tAd := 0
  tPs := 0
  playing := false
  ltick := 0
  dcnt := 0
  scnt := 0
  ocnt := 0
  insil := false
  buz := false
  ien := true
  tpend := false
  tarm := true
  mph := .boot
  hit := false
  cfg := c
  sched := []
  draw := 0

/-- The machine right after reset (10_state.md R37, 70_reset_and_hazards.md R180): the device's own, OPEN parameters. -/
def State.reset : State := State.resetOf Config.params

end Sys2Proof.Machine
end

