-- ==== Sys2Proof/Machine/Operands.lean ====
section
/-! DEFINITION. Operand assembly: what the fields of a STEP word and of a NOTE entry become (30_encoding.md R86, R87), and the
constants they are scaled by (00_scope.md R8). -/

namespace Sys2Proof.Machine

/-- `LIGHT_SCALE` (00_scope.md R8). -/
abbrev lightScale : Word := 2000

/-- `HP_DIV` (00_scope.md R8, 90_conflicts.md C1). -/
abbrev hpDiv : Word := 50

/-- `AD_MUL` (00_scope.md R8). -/
abbrev adMul : Word := 20

/-- `PS_MUL` (00_scope.md R8). -/
abbrev psMul : Word := 10

/-- `REPEAT_TARGET` (00_scope.md R8). -/
abbrev repeatTarget : Index := 1

/-- `zext_CW(mult) * 2000` (30_encoding.md R86). -/
def deadlineOf (mult : BitVec 7) : Word := mult.setWidth 32 * lightScale

/-- `zext_CW(NOTE_VAL[sym]) / 50`, truncating (30_encoding.md R87). -/
def halfPeriodOf (value : Elem) : Word := value.setWidth 32 / hpDiv

/-- `(zext_CW(du) * zext_CW(beat) * 20) mod 2^CW` (30_encoding.md R87). -/
def activeOf (du : BitVec 12) (beat : Elem) : Word := du.setWidth 32 * beat.setWidth 32 * adMul

/-- `(zext_CW(beat) * 10) mod 2^CW` (30_encoding.md R87). -/
def silenceOf (beat : Elem) : Word := beat.setWidth 32 * psMul

/-- `r mod n` on the full 32-bit value, as a 2-bit selection (40_prng.md R104). -/
def pickOf (r : Word) (n : Nat) : Sel := BitVec.ofNat 2 (r.toNat % n)

end Sys2Proof.Machine
end

