-- ==== Sys2Proof/Machine/Flags.lean ====
section
/-! DEFINITION. The tests the block makes: the two comparison words (00_scope.md R14), the table hit (30_encoding.md R87, R88), the
playback phase (10_state.md R27), and the codes of `MPH` (30_encoding.md R92). No arithmetic sets a flag (10_state.md R31). -/

namespace Sys2Proof.Machine

/-- "Exceeds": the strict unsigned comparison (00_scope.md R14, 90_conflicts.md C3). -/
def exceeds (c t : Word) : Bool := t.ult c

/-- "Reaches", "has elapsed": the non-strict unsigned comparison (00_scope.md R14). -/
def reaches (c t : Word) : Bool := t.ule c

/-- A symbol is in the note table when `sym <= 9` (42_tone_scheduler.md R120). -/
def isHit (sym : BitVec 4) : Bool := sym.ule 9

/-- The phase: `PLAYING` is tested first, then `INSIL` (10_state.md R27, 43_tick_playback.md R131). -/
def phaseOf (playing insil : Bool) : Phase :=
  match playing, insil with
  | false, false => .idle
  | false, true => .idle
  | true, true => .postSilence
  | true, false => .active

/-- The playback phase of a state. -/
def State.phase (s : State) : Phase := phaseOf s.playing s.insil

/-- Output line `i` of the light port is active: `led_o[i]` (10_state.md R24, 60_exceptions.md R177). -/
def State.line (s : State) (i : Fin 9) : Bool := s.led.getLsbD i.val

/-- The codes of `MPH` (30_encoding.md R92); 12 to 15 are unused. -/
def MainPhase.code : MainPhase → BitVec 4
  | .boot => 0
  | .p1 => 1
  | .a1 => 2
  | .a2 => 3
  | .a3 => 4
  | .a4 => 5
  | .a5 => 6
  | .p2 => 7
  | .s1 => 8
  | .s2 => 9
  | .s3 => 10
  | .s4 => 11

end Sys2Proof.Machine
end

