-- ==== Sys2Proof/Machine/Ops.lean ====
section
/-! DEFINITION. The shared operations: sequencing, table reads (20_memory.md R61), the single updates the sub-steps are made of,
and taking the tick interrupt and returning from it (60_exceptions.md R162 to R166). -/

namespace Sys2Proof.Machine

/-- What a step of this machine answers. -/
abbrev Result := Host.Outcome State Fault Refusal

/-- Perform one thing, then another on the state it leaves; a stop ends the sequence. -/
def andThen (r : Result) (f : State → Result) : Result :=
  match r with
  | .next s => f s
  | .fault x => .fault x
  | .refused x => .refused x

/-! ### Table memory -/

/-- `MemRead(addr, 1)`: the one element at a table address, none outside the ranges of 20_memory.md R61. -/
def memRead (m : Memory) (a : TableAddr) : Option Elem :=
  match a.space with
  | .pattern => m.pattern[a.selector]?.bind fun words => words[a.index]?
  | .melody => m.melody[a.selector]?.bind fun record => record.notes[a.index]?
  | .melodyBeat => if a.index = 0 then m.melody[a.selector]?.map Melody.beat else none
  | .noteVal => if a.selector = 0 then m.noteVal[a.index]? else none

/-- `len(PATTERN[sel])`, none where `sel` is NONE. -/
def patternLength (m : Memory) (sel : Sel) : Option Nat := m.pattern[sel.toNat]?.map List.length

/-- `len(MELODY[sel].notes)`, none where `sel` is NONE or 2. -/
def melodyLength (m : Memory) (sel : Sel) : Option Nat := m.melody[sel.toNat]?.map fun record => record.notes.length

/-- Read one table element and go on with it; a read outside the tables is refused (93_implementation_defined.md U5). -/
def readThen (s : State) (a : TableAddr) (f : Elem → Result) : Result :=
  match memRead s.cfg.mem a with
  | some w => f w
  | none => .refused (.tableReadOutOfRange a)

/-- The address of the STEP word the pattern cursor names: `(PATTERN, PSEL, PIDX)` (00_scope.md R19). -/
def stepAddr (s : State) : TableAddr := ⟨.pattern, s.psel.toNat, s.pidx.toNat⟩

/-- The address of the NOTE entry the melody cursor names: `(MELODY, MSEL, MIDX)` (00_scope.md R19). -/
def noteAddr (s : State) : TableAddr := ⟨.melody, s.msel.toNat, s.midx.toNat⟩

/-- The address of the selected melody's beat: `(MELODY_BEAT, MSEL, 0)` (00_scope.md R19). -/
def beatAddr (s : State) : TableAddr := ⟨.melodyBeat, s.msel.toNat, 0⟩

/-- The address of a symbol's note-table value: `(NOTE_VAL, 0, sym)` (00_scope.md R19). -/
def valueAddr (sym : BitVec 4) : TableAddr := ⟨.noteVal, 0, sym.toNat⟩

/-! ### Single updates -/

/-- The main context goes to a sub-step (44_main_loop.md R150). -/
def toPhase (p : MainPhase) (s : State) : State := { s with mph := p }

/-- `LED <- lines`, all nine bits at once (41_light_sequencer.md R112). -/
def emitLines (lines : BitVec 9) (s : State) : State := { s with led := lines }

/-- `DEADLINE <- zext_CW(mult) * 2000` (41_light_sequencer.md R113). -/
def setDeadline (mult : BitVec 7) (s : State) : State := { s with deadline := deadlineOf mult }

/-- Sub-step A5: `LTICK <- 0` (41_light_sequencer.md R115). -/
def clearTicks (s : State) : State := { s with ltick := 0 }

/-- The three threshold writes of sub-step S2 (42_tone_scheduler.md R120, R122). -/
def writeTask (value : Elem) (du : BitVec 12) (s : State) : State :=
  { s with tHp := halfPeriodOf value, tAd := activeOf du s.beat, tPs := silenceOf s.beat }

/-- Sub-step S3: `PLAYING <- 1` on a hit (42_tone_scheduler.md R125). -/
def goLive (hit : Bool) (s : State) : State := { s with playing := s.playing || hit }

/-- Sub-step A4's cursor move in a pattern of length `len` (41_light_sequencer.md R110, R114). The wrap test is the equality of the
pseudocode; that an index already at or past the length moves on by one instead of being refused is the model's choice (log entry 26). -/
def stepPatternCursor (len : Nat) (s : State) : State :=
  if (s.pidx + 1).toNat = len then
    if s.prep + 1 = s.ptgt then
      { s with pidx := 0, prep := 0, psel := selNone }
    else
      { s with pidx := 0, prep := s.prep + 1 }
  else
    { s with pidx := s.pidx + 1 }

/-- Sub-step S4's cursor move in a melody of length `len` (42_tone_scheduler.md R120, R126). As for the pattern cursor, an index already
at or past the length moves on by one: the model's choice (log entry 26). -/
def stepMelodyCursor (len : Nat) (s : State) : State :=
  if (s.midx + 1).toNat = len then { s with midx := 0, msel := selNone } else { s with midx := s.midx + 1 }

/-! ### The tick interrupt -/

/-- The tick source's fire (60_exceptions.md R162). -/
def timerFire (s : State) : State := { s with tpend := true, tarm := false }

/-- Taking the interrupt: entry saves nothing and changes only `TPEND` and `IEN` (60_exceptions.md R163, R165). -/
def interruptEntry (s : State) : State := { s with tpend := false, ien := false }

/-- Returning from it: `IEN <- 1`; the main context goes on where `MPH` stands (60_exceptions.md R166). -/
def interruptReturn (s : State) : State := { s with ien := true }

/-! ### Placing a word to run (log entry 14) -/

/-- Make `w` the one word of `PATTERN[0]`, and that pattern the selected one, at its first step. -/
def placeStepWord (w : Elem) (s : State) : State :=
  { s with
    cfg := { s.cfg with mem := { s.cfg.mem with pattern := s.cfg.mem.pattern.set 0 [w] } }
    psel := 0, pidx := 0, prep := 0, ptgt := repeatTarget }

/-- Make `e` the one entry of `MELODY[0]`, and that melody the selected one, at its first entry, with its beat loaded. -/
def placeNoteWord (e : Elem) (s : State) : State :=
  { s with
    cfg := { s.cfg with mem := { s.cfg.mem with melody := s.cfg.mem.melody.set 0 ⟨s.cfg.mem.melody[0].beat, [e]⟩ } }
    msel := 0, midx := 0, beat := s.cfg.mem.melody[0].beat }

/-- Put an OP3 code before the outside events. -/
def pushOp (code : BitVec 3) (s : State) : State := { s with sched := .op code :: s.sched }

/-- Place an OP3 code as the next event. POLL, ADVANCE and DISPATCH interpret table words: their operand words are zeros. -/
def placeOp (code : BitVec 3) (s : State) : State :=
  if code = 0b011#3 then pushOp code (placeStepWord 0 s)
  else if code = 0b100#3 then pushOp code (placeNoteWord 0 s)
  else if code = 0b010#3 then pushOp code (placeStepWord 0 (placeNoteWord 0 s))
  else pushOp code s

/-- Place a NOTE entry so that the DISPATCH that comes next interprets it. -/
def placeNote (e : Elem) (s : State) : State := pushOp 0b100 { placeNoteWord e s with playing := false }

end Sys2Proof.Machine
end

