-- ==== Sys2Proof/Machine/Prng.lean ====
section
/-! DEFINITION. The pseudo-random generator, operation NEXT (40_prng.md). -/

namespace Sys2Proof.Machine

/-- The generator's function: three shift-and-xor stages, each on the result of the one before (40_prng.md R100). -/
def xorshift (x0 : Word) : Word :=
  let x1 := x0 ^^^ (x0 <<< 13)
  let x2 := x1 ^^^ (x1 >>> 17)
  x2 ^^^ (x2 <<< 5)

/-- Draw: `RNG` takes the new value, which is also the value returned (40_prng.md R100). -/
def drawNext (s : State) : State := { s with rng := xorshift s.rng }

/-- NEXT (40_prng.md R100). -/
def execNext (s : State) : Result := .next (drawNext s)

end Sys2Proof.Machine
end

