-- ==== Sys2Proof/Machine/Light.lean ====
section
/-! DEFINITION. The light-pattern sequencer: the sub-steps A1 to A5, the STEP word and the operation ADVANCE
(41_light_sequencer.md). -/

namespace Sys2Proof.Machine

/-- Sub-step A1, the lazy pick (41_light_sequencer.md R110, R111). -/
def subA1 (s : State) : State :=
  if s.psel = selNone then { drawNext s with psel := pickOf (drawNext s).rng 3, ptgt := repeatTarget } else s

/-- Sub-step A2: read the STEP word and emit its lines (41_light_sequencer.md R110, R112). -/
def subA2 (s : State) : Result := readThen s (stepAddr s) fun w => .next (emitLines (stepLines w) s)

/-- Sub-step A3: read the STEP word and set the deadline from its multiplier (41_light_sequencer.md R110, R113). -/
def subA3 (s : State) : Result := readThen s (stepAddr s) fun w => .next (setDeadline (stepMult w) s)

/-- Sub-step A4: move the pattern cursor (41_light_sequencer.md R110, R114). -/
def subA4 (s : State) : Result :=
  match patternLength s.cfg.mem s.psel with
  | some len => .next (stepPatternCursor len s)
  | none => .refused (.noTableSelected .pattern s.psel)

/-- Sub-step A5 (41_light_sequencer.md R115). -/
def subA5 (s : State) : State := clearTicks s

/-- The STEP word as an instruction: drive the lines and hold them for `mult * 2000` ticks counted from the clear of `LTICK`
(41_light_sequencer.md R113); the cursor moves on after it (10_state.md R30). These are A2 to A5 for this word (log entry 7). -/
def execStep (lines : BitVec 9) (mult : BitVec 7) (s : State) : Result :=
  andThen (subA4 (setDeadline mult (emitLines lines s))) fun t => .next (subA5 t)

/-- Interpret the STEP word under the pattern cursor. -/
def runStepUnderCursor (s : State) : Result :=
  readThen s (stepAddr s) fun w => execStep (stepLines w) (stepMult w) s

/-- ADVANCE (41_light_sequencer.md R110): pick if nothing is selected, then interpret the word under the cursor. -/
def execAdvance (s : State) : Result := runStepUnderCursor (subA1 s)

end Sys2Proof.Machine
end

