-- ==== Sys2Proof/Machine/Tone.lean ====
section
/-! DEFINITION. The tone scheduler: the sub-steps S1 to S4, the sixteen NOTE entries and the operation DISPATCH
(42_tone_scheduler.md). -/

namespace Sys2Proof.Machine

/-- Sub-step S1, the lazy pick (42_tone_scheduler.md R120, R121). -/
def subS1 (s : State) : Result :=
  if s.msel = selNone then
    let t := { drawNext s with msel := pickOf (drawNext s).rng 2 }
    readThen t (beatAddr t) fun b => .next { t with beat := b }
  else .next s

/-- Sub-step S2's writes for an entry: on a hit the three thresholds, on a miss nothing (42_tone_scheduler.md R120, R122, R124). -/
def noteTask (sym : BitVec 4) (du : BitVec 12) (s : State) : Result :=
  if isHit sym then readThen s (valueAddr sym) fun v => .next (writeTask v du s) else .next s

/-- Sub-step S2: read the NOTE entry, write the task on a hit, and keep `hit` for S3 (42_tone_scheduler.md R120). -/
def subS2 (s : State) : Result :=
  readThen s (noteAddr s) fun e =>
    andThen (noteTask (noteSym e) (noteDu e) s) fun t => .next { t with hit := isHit (noteSym e) }

/-- Sub-step S3: mark the task live on a hit; `hit` has no further use (42_tone_scheduler.md R120, R125; log entry 6). -/
def subS3 (s : State) : State := { goLive s.hit s with hit := false }

/-- Sub-step S4: move the melody cursor (42_tone_scheduler.md R120, R126). -/
def subS4 (s : State) : Result :=
  match melodyLength s.cfg.mem s.msel with
  | some len => .next (stepMelodyCursor len s)
  | none => .refused (.noTableSelected .melody s.msel)

/-- DISPATCH's guard: with a live task the trace has no meaning (93_implementation_defined.md U3). -/
def whenIdle (s : State) (r : Result) : Result := if s.playing then .refused .dispatchWhilePlaying else r

/-- A NOTE entry whose symbol is in the note table, as an instruction: write the task, mark it live, move the cursor; S2 to S4
for this entry (42_tone_scheduler.md R122, R123, R125, R126; log entry 7). -/
def noteHit (sym : BitVec 4) (du : BitVec 12) (s : State) : Result :=
  whenIdle s (andThen (noteTask sym du s) fun t => subS4 (goLive true t))

/-- A NOTE entry whose symbol is not in the note table: only the cursor moves (42_tone_scheduler.md R124; log entry 7). -/
def noteMiss (s : State) : Result := whenIdle s (subS4 s)

/-- NOTE.REST, symbol code 0: a hit (42_tone_scheduler.md R122, R123). -/
def execNoteRest (du : BitVec 12) (s : State) : Result := noteHit 0 du s

/-- NOTE.S1, symbol code 1: a hit (42_tone_scheduler.md R122, R123). -/
def execNoteS1 (du : BitVec 12) (s : State) : Result := noteHit 1 du s

/-- NOTE.S2, symbol code 2: a hit (42_tone_scheduler.md R122, R123). -/
def execNoteS2 (du : BitVec 12) (s : State) : Result := noteHit 2 du s

/-- NOTE.S3, symbol code 3: a hit (42_tone_scheduler.md R122, R123). -/
def execNoteS3 (du : BitVec 12) (s : State) : Result := noteHit 3 du s

/-- NOTE.S4, symbol code 4: a hit (42_tone_scheduler.md R122, R123). -/
def execNoteS4 (du : BitVec 12) (s : State) : Result := noteHit 4 du s

/-- NOTE.S5, symbol code 5: a hit (42_tone_scheduler.md R122, R123). -/
def execNoteS5 (du : BitVec 12) (s : State) : Result := noteHit 5 du s

/-- NOTE.S6, symbol code 6: a hit (42_tone_scheduler.md R122, R123). -/
def execNoteS6 (du : BitVec 12) (s : State) : Result := noteHit 6 du s

/-- NOTE.S7, symbol code 7: a hit (42_tone_scheduler.md R122, R123). -/
def execNoteS7 (du : BitVec 12) (s : State) : Result := noteHit 7 du s

/-- NOTE.S8, symbol code 8: a hit (42_tone_scheduler.md R122, R123). -/
def execNoteS8 (du : BitVec 12) (s : State) : Result := noteHit 8 du s

/-- NOTE.S9, symbol code 9: a hit (42_tone_scheduler.md R122, R123). -/
def execNoteS9 (du : BitVec 12) (s : State) : Result := noteHit 9 du s

/-- NOTE.X10, symbol code 10: a miss (42_tone_scheduler.md R124); the duration-unit is not used. -/
def execNoteX10 (_du : BitVec 12) (s : State) : Result := noteMiss s

/-- NOTE.X11, symbol code 11: a miss (42_tone_scheduler.md R124); the duration-unit is not used. -/
def execNoteX11 (_du : BitVec 12) (s : State) : Result := noteMiss s

/-- NOTE.X12, symbol code 12: a miss (42_tone_scheduler.md R124); the duration-unit is not used. -/
def execNoteX12 (_du : BitVec 12) (s : State) : Result := noteMiss s

/-- NOTE.X13, symbol code 13: a miss (42_tone_scheduler.md R124); the duration-unit is not used. -/
def execNoteX13 (_du : BitVec 12) (s : State) : Result := noteMiss s

/-- NOTE.X14, symbol code 14: a miss (42_tone_scheduler.md R124); the duration-unit is not used. -/
def execNoteX14 (_du : BitVec 12) (s : State) : Result := noteMiss s

/-- NOTE.X15, symbol code 15: a miss (42_tone_scheduler.md R124); the duration-unit is not used. -/
def execNoteX15 (_du : BitVec 12) (s : State) : Result := noteMiss s

/-- Interpret a NOTE entry, by its symbol code, bit 3 first (30_encoding.md R85). -/
def execNoteOf (sym : BitVec 4) (du : BitVec 12) (s : State) : Result :=
  match sym.getLsbD 3, sym.getLsbD 2, sym.getLsbD 1, sym.getLsbD 0 with
  | false, false, false, false => execNoteRest du s
  | false, false, false, true => execNoteS1 du s
  | false, false, true, false => execNoteS2 du s
  | false, false, true, true => execNoteS3 du s
  | false, true, false, false => execNoteS4 du s
  | false, true, false, true => execNoteS5 du s
  | false, true, true, false => execNoteS6 du s
  | false, true, true, true => execNoteS7 du s
  | true, false, false, false => execNoteS8 du s
  | true, false, false, true => execNoteS9 du s
  | true, false, true, false => execNoteX10 du s
  | true, false, true, true => execNoteX11 du s
  | true, true, false, false => execNoteX12 du s
  | true, true, false, true => execNoteX13 du s
  | true, true, true, false => execNoteX14 du s
  | true, true, true, true => execNoteX15 du s

/-- Interpret the NOTE entry under the melody cursor. -/
def runNoteUnderCursor (s : State) : Result :=
  readThen s (noteAddr s) fun e => execNoteOf (noteSym e) (noteDu e) s

/-- DISPATCH (42_tone_scheduler.md R120): pick if nothing is selected, then interpret the entry under the cursor. -/
def execDispatch (s : State) : Result := whenIdle s (andThen (subS1 s) runNoteUnderCursor)

end Sys2Proof.Machine
end

