-- ==== Sys2Proof/Machine/Loop.lean ====
section
/-! DEFINITION. The main polling loop: one sub-step of the main context, and the operation POLL (44_main_loop.md). -/

namespace Sys2Proof.Machine

/-- Sub-step P1's test (44_main_loop.md R151). -/
def lightDue (s : State) : Bool := reaches s.ltick s.deadline

/-- The main context's step: the sub-step `MPH` names, then its successor (44_main_loop.md R150). `BOOT` is one step (R155; log
entry 5). -/
def mainStep (s : State) : Result :=
  match s.mph with
  | .boot => .next (toPhase .p1 s)
  | .p1 => .next (toPhase (if lightDue s then .a1 else .p2) s)
  | .a1 => .next (toPhase .a2 (subA1 s))
  | .a2 => andThen (subA2 s) fun t => .next (toPhase .a3 t)
  | .a3 => andThen (subA3 s) fun t => .next (toPhase .a4 t)
  | .a4 => andThen (subA4 s) fun t => .next (toPhase .a5 t)
  | .a5 => .next (toPhase .p2 (subA5 s))
  | .p2 => .next (toPhase (if s.playing then .p1 else .s1) s)
  | .s1 => andThen (subS1 s) fun t => .next (toPhase .s2 t)
  | .s2 => andThen (subS2 s) fun t => .next (toPhase .s3 t)
  | .s3 => .next (toPhase .s4 (subS3 s))
  | .s4 => andThen (subS4 s) fun t => .next (toPhase .p1 t)

/-- P1 of a whole iteration: ADVANCE if the light step is over (44_main_loop.md R150, R151). -/
def pollLight (s : State) : Result := if lightDue s then execAdvance s else .next s

/-- P2 of a whole iteration: DISPATCH if the buzzer is idle (44_main_loop.md R150, R152). -/
def pollBuzzer (s : State) : Result := if s.playing then .next s else execDispatch s

/-- POLL: one whole iteration, which ends where the next begins, at P1 (44_main_loop.md R150; log entry 8). -/
def execPoll (s : State) : Result :=
  andThen (pollLight s) fun t => andThen (pollBuzzer t) fun u => .next (toPhase .p1 u)

end Sys2Proof.Machine
end

