-- ==== Sys2Proof/Machine/Power.lean ====
section
/-! DEFINITION. The operation RESET (70_reset_and_hazards.md R180). -/

namespace Sys2Proof.Machine

/-- RESET: every register to its reset value; the tables are constants and stay, and so do the outside events still to come (log
entry 20). -/
def execReset (s : State) : Result :=
  .next { State.resetOf s.cfg with sched := s.sched, draw := s.draw }

end Sys2Proof.Machine
end

