-- ==== Sys2Proof/Machine/Tick.lean ====
section
/-! DEFINITION. The tick handler and the playback state machine, operation TICK (43_tick_playback.md). -/

namespace Sys2Proof.Machine

/-- Sub-step T1 (43_tick_playback.md R131). -/
def countTick (s : State) : State := { s with ltick := s.ltick + 1 }

/-- An IDLE tick (43_tick_playback.md R132). -/
def idleTick (s : State) : State := { s with buz := false }

/-- A POST_SILENCE tick; the test is made on the incremented counter (43_tick_playback.md R136). -/
def postSilenceTick (s : State) : State :=
  if exceeds (s.scnt + 1) s.tPs then
    { s with buz := false, playing := false, scnt := 0, insil := false }
  else
    { s with buz := false, scnt := s.scnt + 1 }

/-- The oscillation of an ACTIVE tick (43_tick_playback.md R135). -/
def oscillate (s : State) : State :=
  if exceeds (s.ocnt + 1) s.tHp then { s with buz := !s.buz, ocnt := 0 } else { s with ocnt := s.ocnt + 1 }

/-- An ACTIVE tick: the duration test, then the rest test, then the oscillation (43_tick_playback.md R133, R134, R135). -/
def activeTick (s : State) : State :=
  if exceeds (s.dcnt + 1) s.tAd then
    { s with insil := true, dcnt := 0, ocnt := 0, buz := false }
  else if s.tHp = 0 then
    { s with dcnt := s.dcnt + 1, buz := false }
  else
    oscillate { s with dcnt := s.dcnt + 1 }

/-- Sub-step T2: the one phase branch that runs (43_tick_playback.md R130). -/
def playbackTick (s : State) : State :=
  match s.phase with
  | .idle => idleTick s
  | .postSilence => postSilenceTick s
  | .active => activeTick s

/-- Sub-step T3: the re-arm, on every path (43_tick_playback.md R137). -/
def rearm (s : State) : State := { s with tarm := true }

/-- The whole of TICK as a function of the state: it has no wait and no stop (43_tick_playback.md R143). -/
def tickBody (s : State) : State := rearm (playbackTick (countTick s))

/-- TICK (43_tick_playback.md R130): the handler's body; entry and return are the interrupt step's (log entry 9). -/
def execTick (s : State) : Result := .next (tickBody s)

end Sys2Proof.Machine
end

