-- ==== Sys2Proof/Machine/Agents.lean ====
section
/-! DEFINITION. The agents' steps (60_exceptions.md R160 to R167): a turn of the reset input, the tick source, the interrupt
context or the main context. -/

namespace Sys2Proof.Machine

/-- The tick source's turn: it fires if it is armed (60_exceptions.md R162); otherwise nothing moves (log entry 3). -/
def fireTurn (s : State) : Result := if s.tarm then .next (timerFire s) else .next s

/-- The fused tick step: entry, one whole TICK, return (60_exceptions.md R163 to R166; log entry 4). -/
def interruptStep (s : State) : Result :=
  andThen (execTick (interruptEntry s)) fun t => .next (interruptReturn t)

/-- The interrupt context's turn: a pending interrupt with `IEN = 1` is taken (60_exceptions.md R164); otherwise nothing moves (log
entry 3). -/
def tickTurn (s : State) : Result := if s.tpend && s.ien then interruptStep s else .next s

/-- One turn. -/
def takeTurn (c : Choice) (s : State) : Result :=
  match c with
  | .reset => execReset s
  | .fire => fireTurn s
  | .tick => tickTurn s
  | .main => mainStep s

end Sys2Proof.Machine
end

