-- ==== Sys2Proof/Machine/Dispatch.lean ====
section
/-! DEFINITION. One arm per constructor of Instr: the meaning of each row of the opcode table. -/

namespace Sys2Proof.Machine

def exec (i : Instr) (s : State) : Host.Outcome State Fault Refusal :=
  match i with
  | .reset => Sys2Proof.Machine.execReset s
  | .tick => Sys2Proof.Machine.execTick s
  | .poll => Sys2Proof.Machine.execPoll s
  | .advance => Sys2Proof.Machine.execAdvance s
  | .dispatch => Sys2Proof.Machine.execDispatch s
  | .next => Sys2Proof.Machine.execNext s
  | .step lines mult => Sys2Proof.Machine.execStep lines mult s
  | .noteRest du => Sys2Proof.Machine.execNoteRest du s
  | .noteS1 du => Sys2Proof.Machine.execNoteS1 du s
  | .noteS2 du => Sys2Proof.Machine.execNoteS2 du s
  | .noteS3 du => Sys2Proof.Machine.execNoteS3 du s
  | .noteS4 du => Sys2Proof.Machine.execNoteS4 du s
  | .noteS5 du => Sys2Proof.Machine.execNoteS5 du s
  | .noteS6 du => Sys2Proof.Machine.execNoteS6 du s
  | .noteS7 du => Sys2Proof.Machine.execNoteS7 du s
  | .noteS8 du => Sys2Proof.Machine.execNoteS8 du s
  | .noteS9 du => Sys2Proof.Machine.execNoteS9 du s
  | .noteX10 du => Sys2Proof.Machine.execNoteX10 du s
  | .noteX11 du => Sys2Proof.Machine.execNoteX11 du s
  | .noteX12 du => Sys2Proof.Machine.execNoteX12 du s
  | .noteX13 du => Sys2Proof.Machine.execNoteX13 du s
  | .noteX14 du => Sys2Proof.Machine.execNoteX14 du s
  | .noteX15 du => Sys2Proof.Machine.execNoteX15 du s

end Sys2Proof.Machine
end

