-- ==== Sys2Proof/Machine/Step.lean ====
section
/-! DEFINITION. The step: the next outside event is taken; where none is listed, the agent that moves is a free choice
(60_exceptions.md R167; log entry 2). -/

namespace Sys2Proof.Machine

/-- Run one element of an event trace: decode its OP3 code and perform the operation (30_encoding.md R84, R88). -/
def runOp (code : BitVec 3) (s : State) : Host.Outcome State Fault Refusal :=
  match decodeOp code with
  | some i => exec i s
  | none => .refused (.reservedOp code)

/-- One step of the machine. -/
def step (s : State) : Host.Outcome State Fault Refusal :=
  match s.sched with
  | .op code :: rest => runOp code { s with sched := rest }
  | .turn c :: rest => takeTurn c { s with sched := rest }
  | [] => takeTurn (Config.freeChoice s.draw) { s with draw := s.draw + 1 }

/-- `s` with the instruction of a table word placed so that the next step runs it (log entry 14). -/
def State.withFetchWord (s : State) (nbits w : Nat) : State :=
  if nbits ≤ 8 then placeOp (BitVec.ofNat 3 w) s else placeNote (BitVec.ofNat 16 w) s

end Sys2Proof.Machine
end

