-- ==== Sys2Proof/Machine/Assembler.lean ====
section
/-! DEFINITION. The spec's own written forms of tables and traces: the serialised tables (30_encoding.md R83, 20_memory.md R64), the
pseudo-operations (30_encoding.md R94) and the source text of tables and traces (R93). No step reads any of it. -/

namespace Sys2Proof.Machine

/-! ### Serialised tables -/

/-- A pattern's bytes: its length word, then its STEP words (30_encoding.md R83). -/
def patternBytes (words : List Elem) : List Byte :=
  elemBytes (BitVec.ofNat 16 words.length) ++ words.flatMap elemBytes

/-- A melody record's bytes: its beat, its length word, then its entries (30_encoding.md R83). -/
def melodyBytes (m : Melody) : List Byte := elemBytes m.beat ++ patternBytes m.notes

/-- Read one 16-bit word, low byte first (20_memory.md R64). -/
def loadElem : List Byte → Option (Elem × List Byte)
  | b0 :: b1 :: rest => some (b1 ++ b0, rest)
  | [_] => none
  | [] => none

/-- Read `n` 16-bit words. -/
def loadElems : Nat → List Byte → Option (List Elem × List Byte)
  | 0, bs => some ([], bs)
  | n + 1, bs =>
    (loadElem bs).bind fun (w, rest) => (loadElems n rest).map fun (ws, rest') => (w :: ws, rest')

/-- Read a serialised pattern. -/
def loadPattern (bs : List Byte) : Option (List Elem × List Byte) :=
  (loadElem bs).bind fun (len, rest) => loadElems len.toNat rest

/-- Read a serialised melody record. -/
def loadMelody (bs : List Byte) : Option (Melody × List Byte) :=
  (loadElem bs).bind fun (beat, rest) => (loadPattern rest).map fun (notes, rest') => (⟨beat, notes⟩, rest')

/-! ### Pseudo-operations -/

/-- `TICK*<n>` (30_encoding.md R94). -/
def tickEvents (n : Nat) : List Event := List.replicate n (.op 0b001)

/-- `POLL*<n>` (30_encoding.md R94). -/
def pollEvents (n : Nat) : List Event := List.replicate n (.op 0b010)

/-- `NOTE_FULL`: the ticks of one note, performed from its first ACTIVE tick (30_encoding.md R94). -/
def noteFullEvents (s : State) : List Event := tickEvents (s.tAd.toNat + s.tPs.toNat + 2)

/-- `REST <du>` is `NOTE REST, <du>` (30_encoding.md R94). -/
def restWord (du : BitVec 12) : Elem := encodeWord (.noteRest du)

/-! ### Source text -/

/-- A token of source text. -/
abbrev Token := List Char

/-- The brace characters of a set of line letters. -/
def openBrace : Char := Char.ofNat 123

/-- See `openBrace`. -/
def closeBrace : Char := Char.ofNat 125

/-- A character that is a token of its own. -/
def isDelimiter (c : Char) : Bool := c == ':' || c == ',' || c == ';' || c == openBrace || c == closeBrace

/-- Close the token being read, if it holds anything. -/
def closeToken (acc : List Char) (rest : List Token) : List Token :=
  match acc with
  | [] => rest
  | c :: cs => (c :: cs).reverse :: rest

/-- Cut text into tokens; `acc` holds the token being read, last character first. -/
def tokenize (acc : List Char) : List Char → List Token
  | [] => closeToken acc []
  | c :: cs =>
    if c.isWhitespace then closeToken acc (tokenize [] cs)
    else if isDelimiter c then closeToken acc ([c] :: tokenize [] cs)
    else tokenize (c :: acc) cs

/-- The tokens of a text. -/
def tokensOf (text : String) : List Token := tokenize [] text.toList

/-- Cut a list of tokens at each separator. -/
def cutAt (sep : Char) : List Token → List (List Token)
  | [] => [[]]
  | t :: ts =>
    if t = [sep] then [] :: cutAt sep ts
    else
      match cutAt sep ts with
      | part :: parts => (t :: part) :: parts
      | [] => [[t]]

/-- All values, if every one is there. -/
def allSome {α : Type} : List (Option α) → Option (List α)
  | [] => some []
  | x :: xs => x.bind fun a => (allSome xs).map (a :: ·)

/-- A digit's value. -/
def digitValue (c : Char) : Option Nat :=
  if '0' ≤ c ∧ c ≤ '9' then some (c.toNat - 48)
  else if 'A' ≤ c ∧ c ≤ 'F' then some (c.toNat - 55)
  else if 'a' ≤ c ∧ c ≤ 'f' then some (c.toNat - 87)
  else none

/-- Digits in a base, after the value read so far. -/
def digitsValue (base : Nat) (sofar : Nat) : List Char → Option Nat
  | [] => some sofar
  | c :: cs =>
    (digitValue c).bind fun d => if d < base then digitsValue base (sofar * base + d) cs else none

/-- One digit or more in a base. That a digit above 9 may be a capital or a small letter, and that zeros may stand in front, is the model's
choice (log entry 25). -/
def digitsOf (base : Nat) : List Char → Option Nat
  | [] => none
  | c :: cs => digitsValue base 0 (c :: cs)

/-- A number written in binary `0b…` or hexadecimal `0x…` (30_encoding.md R93). -/
def prefixedNumberOf : Token → Option Nat
  | '0' :: 'b' :: ds => digitsOf 2 ds
  | '0' :: 'x' :: ds => digitsOf 16 ds
  | _ => none

/-- A number wherever 30_encoding.md R93 and R94 give a range and no written form, which is everywhere but in `<lines>`. That binary,
hexadecimal and decimal are all read there is the model's choice: DESIGN CHOICE (log entry 25). -/
def numberOf (t : Token) : Option Nat := (prefixedNumberOf t).or (digitsOf 10 t)

/-- A number as `w` bits, if it fits. -/
def fitBits (w n : Nat) : Option (BitVec w) := if n < 2 ^ w then some (BitVec.ofNat w n) else none

/-- A number of at most `w` bits. -/
def bitsOf (w : Nat) (t : Token) : Option (BitVec w) := (numberOf t).bind (fitBits w)

/-- A line letter's bit: `A` is bit 0, `I` is bit 8 (10_state.md R24). -/
def lineBit (c : Char) : Option (BitVec 9) :=
  if 'A' ≤ c ∧ c ≤ 'I' then some (1#9 <<< (c.toNat - 65)) else none

/-- The letters of a set up to its closing brace, and the tokens after it. That commas between letters may be left out, that a letter may
stand twice and that a set may be empty is the model's choice (log entry 25). -/
def lineSet : List Token → Option (BitVec 9 × List Token)
  | [] => none
  | t :: ts =>
    if t = [closeBrace] then some (0, ts)
    else if t = [','] then lineSet ts
    else
      match t with
      | [c] => (lineBit c).bind fun b => (lineSet ts).map fun (bits, rest) => (b ||| bits, rest)
      | _ => none

/-- `<lines>`: 9 bits in binary or hexadecimal, or a set of line letters; no other form (30_encoding.md R93). -/
def linesOf : List Token → Option (BitVec 9 × List Token)
  | [] => none
  | t :: ts => if t = [openBrace] then lineSet ts else ((prefixedNumberOf t).bind (fitBits 9)).map fun b => (b, ts)

/-- `<sym>`: a name of 30_encoding.md R85 letter for letter, or its code. -/
def symbolOf (t : Token) : Option (BitVec 4) :=
  if t = "REST".toList then some 0
  else
    match t with
    | ['S', c] => (digitValue c).bind fun d => if 1 ≤ d ∧ d ≤ 9 then some (BitVec.ofNat 4 d) else none
    | ['X', '1', c] => (digitValue c).bind fun d => if d ≤ 5 then some (BitVec.ofNat 4 (10 + d)) else none
    | _ => bitsOf 4 t

/-- One `STEP <lines>, <mult>` (30_encoding.md R93, R94). -/
def stepWordOf : List Token → Option Elem
  | [] => none
  | t :: ts =>
    if t = "STEP".toList then
      (linesOf ts).bind fun (lines, rest) =>
        match rest with
        | [[','], m] => (bitsOf 7 m).map fun mult => encodeWord (.step lines mult)
        | _ => none
    else none

/-- One `NOTE <sym>, <du>` or `REST <du>` (30_encoding.md R93, R94). -/
def noteWordOf : List Token → Option Elem
  | [t, sym, [','], du] =>
    if t = "NOTE".toList then
      (symbolOf sym).bind fun s => (bitsOf 12 du).map fun d => encodeWord (noteOf s d)
    else none
  | [t, du] => if t = "REST".toList then (bitsOf 12 du).map restWord else none
  | _ => none

/-- One line of table source text (30_encoding.md R93). -/
inductive SourceLine
  | pattern (p : Nat) (words : List Elem)
  | melody (m : Nat) (record : Melody)
  | noteVal (values : List Elem)
  | seed (value : Word)
  deriving DecidableEq, Repr

/-- Read one line of table source text; a line of any other form is refused. -/
def parseLine (ts : List Token) : Option SourceLine :=
  match ts with
  | [kw, v] => if kw = "SEED".toList then (bitsOf 32 v).map .seed else none
  | kw :: [':'] :: rest =>
    if kw = "NOTEVAL".toList then
      (allSome ((cutAt ',' rest).map fun part => part.head?.bind (bitsOf 16))).bind fun vs =>
        if vs.length = 10 ∧ rest.length = 19 then some (.noteVal vs) else none
    else none
  | kw :: p :: [':'] :: rest =>
    if kw = "PATTERN".toList then
      (numberOf p).bind fun n => (allSome ((cutAt ';' rest).map stepWordOf)).map fun ws => .pattern n ws
    else none
  | kw :: m :: kw2 :: b :: [':'] :: rest =>
    if kw = "MELODY".toList ∧ kw2 = "BEAT".toList then
      (numberOf m).bind fun n => (bitsOf 16 b).bind fun beat =>
        (allSome ((cutAt ';' rest).map noteWordOf)).map fun es => .melody n ⟨beat, es⟩
    else none
  | _ => none

/-- Put one source line into the parameters; a table number outside its range is refused. -/
def loadLine (line : SourceLine) (p : Params) : Option Params :=
  match line with
  | .pattern n words =>
    if h : n < 3 then some { p with mem := { p.mem with pattern := p.mem.pattern.set n words } } else none
  | .melody n record =>
    if h : n < 2 then some { p with mem := { p.mem with melody := p.mem.melody.set n record } } else none
  | .noteVal values =>
    if h : values.length = 10 then some { p with mem := { p.mem with noteVal := ⟨values.toArray, by simp [h]⟩ } } else none
  | .seed value => some { p with seed := value }

/-- The name of an operation in an event trace (30_encoding.md R93). -/
def opCodeOf (t : Token) : Option (BitVec 3) :=
  if t = "RESET".toList then some 0b000
  else if t = "TICK".toList then some 0b001
  else if t = "POLL".toList then some 0b010
  else if t = "ADVANCE".toList then some 0b011
  else if t = "DISPATCH".toList then some 0b100
  else if t = "NEXT".toList then some 0b101
  else none

/-- Cut a token at its first `*`. -/
def cutStar : List Char → List Char × Option (List Char)
  | [] => ([], none)
  | c :: cs => if c = '*' then ([], some cs) else ((c :: (cutStar cs).1), (cutStar cs).2)

/-- One word of an event trace: an operation's name, or `TICK*<n>` or `POLL*<n>` (30_encoding.md R93, R94).
`NOTE_FULL`, whose length only a state gives, is `noteFullEvents` and no word here (log entry 25). -/
def traceWordOf (t : Token) : Option (List Event) :=
  match cutStar t with
  | (name, none) => (opCodeOf name).map fun code => [.op code]
  | (name, some digits) =>
    (numberOf digits).bind fun n =>
      if name = "TICK".toList then some (tickEvents n)
      else if name = "POLL".toList then some (pollEvents n)
      else none

/-- The events of a trace's text; words are separated by `;`, as in 95_test_vectors.md, or by white space alone, which is the
model's choice (30_encoding.md R93, log entry 25). -/
def traceOf (text : String) : Option (List Event) :=
  (allSome (((tokensOf text).filter fun t => !decide (t = [';'])).map traceWordOf)).map List.flatten

end Sys2Proof.Machine
end

