-- ==== Sys2Proof/Safety.lean ====
section
/-! DEFINITION. The terms claims are stated in: repeated operations and sub-steps, runs, the invariant of the closed block, what a
run that never stops is, and fair turns (60_exceptions.md R167, log entry 27). -/

namespace Sys2Proof.Machine

/-! ### Repetition and runs -/

/-- An operation performed `n` times. -/
def repeatOp (i : Instr) : Nat → State → Result
  | 0, s => .next s
  | n + 1, s => andThen (repeatOp i n s) (exec i)

/-- `n` sub-steps of the main context with no tick between them. -/
def mainSteps : Nat → State → Result
  | 0, s => .next s
  | n + 1, s => andThen (mainStep s) (mainSteps n)

/-- The states a run from `s` passes through. -/
inductive Reaches (s : State) : State → Prop
  | here : Reaches s s
  | next {t u : State} : Reaches s t → step t = .next u → Reaches s u

/-- No run from `s` comes to a stop (60_exceptions.md R170: "No crashes are possible by construction"). -/
def NeverStops (s : State) : Prop := ∀ t, Reaches s t → ∃ u, step t = .next u

/-- Who moves in the next step; none when it runs an element of an event trace. -/
def mover (s : State) : Option Choice :=
  match s.sched with
  | .op _ :: _ => none
  | .turn c :: _ => some c
  | [] => some (Config.freeChoice s.draw)

/-- The state a step acts on: its event is taken from the list, or one free choice is counted where the list is empty (log entry 2). -/
def taken (s : State) : State :=
  match s.sched with
  | _ :: rest => { s with sched := rest }
  | [] => { s with draw := s.draw + 1 }

/-- The first `n` turns of an endless sequence of turns. -/
def afterTurns (turns : Nat → Choice) : Nat → State → Result
  | 0, s => .next s
  | n + 1, s => andThen (afterTurns turns n s) (takeTurn (turns n))

/-- Weak fairness: each agent has its turn again and again. 60_exceptions.md R167 and 92_eei_decisions.md D29 ask it of the tick source
and the main context. That the interrupt context has its turn too, so that a pending tick is taken in the end, is the model's own:
DESIGN CHOICE, unsafe (log entry 27). -/
def FairTurns (turns : Nat → Choice) : Prop :=
  ∀ c, c ≠ Choice.reset → ∀ n, ∃ m, n ≤ m ∧ turns m = c

/-! ### The invariant -/

/-- The pattern cursor (10_state.md R22): a selected pattern's index is inside it, and the unselected cursor is at rest. The repeat
counter is 0 between operations and the target of a selected pattern is 1 (41_light_sequencer.md R111, R114). -/
abbrev PatternCursorOk (s : State) : Prop :=
  s.prep = 0 ∧ (s.psel = selNone → s.pidx = 0) ∧
    (s.psel ≠ selNone → s.ptgt = 1 ∧ s.pidx.toNat < (patternLength s.cfg.mem s.psel).getD 0)

/-- The melody cursor (10_state.md R25): as the pattern cursor; `MSEL` is never 2 (30_encoding.md R88); `BEAT` is the selected
melody's beat. -/
abbrev MelodyCursorOk (s : State) : Prop :=
  s.msel ≠ 2 ∧ (s.msel = selNone → s.midx = 0) ∧
    (s.msel ≠ selNone → s.midx.toNat < (melodyLength s.cfg.mem s.msel).getD 0 ∧ memRead s.cfg.mem (beatAddr s) = some s.beat)

/-- The playback state (10_state.md R28): all of it is 0 while `PLAYING = 0`; in POST_SILENCE only the silence counter runs, and it
is 0 outside. -/
abbrev PlaybackOk (s : State) : Prop :=
  (s.playing = false → s.dcnt = 0 ∧ s.scnt = 0 ∧ s.ocnt = 0 ∧ s.insil = false ∧ s.buz = false) ∧
    (s.insil = true → s.dcnt = 0 ∧ s.ocnt = 0 ∧ s.buz = false) ∧ (s.insil = false → s.scnt = 0)

/-- The values a deadline and a task can have (30_encoding.md R86, R87, 43_tick_playback.md R141): `T_AD` is a multiple of 4. -/
abbrev TaskOk (s : State) : Prop :=
  s.deadline.toNat ≤ 254000 ∧ s.tHp.toNat ≤ 1310 ∧ s.tPs.toNat ≤ 655350 ∧ s.tAd.toNat % 4 = 0

/-- What holds between whole operations: the configuration is one the spec admits (00_scope.md R10), the generator is not 0
(40_prng.md R101), and the cursors, the playback state and the task are in order. -/
abbrev DataOk (s : State) : Prop :=
  s.cfg.wf = true ∧ s.rng ≠ 0 ∧ PatternCursorOk s ∧ MelodyCursorOk s ∧ PlaybackOk s ∧ TaskOk s

/-- What the main context's position says (44_main_loop.md R150, 20_memory.md R70): a table is selected where one is read, no task
is live until S3, and `hit` is set only on the way to S3. -/
abbrev PositionOk (s : State) : Prop :=
  (s.mph = .a2 ∨ s.mph = .a3 ∨ s.mph = .a4 → s.psel ≠ selNone) ∧
    (s.mph = .s2 ∨ s.mph = .s3 ∨ s.mph = .s4 → s.msel ≠ selNone) ∧
    (s.mph = .s1 ∨ s.mph = .s2 ∨ s.mph = .s3 → s.playing = false) ∧ (s.hit = true → s.mph = .s3)

/-- The tick interrupt between steps (60_exceptions.md R162, R166): it is not masked, and a tick is either armed or pending, never
both, never neither. -/
abbrev TimerOk (s : State) : Prop := s.ien = true ∧ s.tarm = !s.tpend

/-- An event that is a turn of an agent or of the reset input, not an element of a test's trace. -/
def Event.isTurn : Event → Bool
  | .turn _ => true
  | .op _ => false

/-- The closed block: no operation is driven from outside its own loop (30_encoding.md R84). -/
abbrev Closed (s : State) : Prop := s.sched.all Event.isTurn = true

/-- The invariant of the closed block. -/
abbrev Inv (s : State) : Prop := DataOk s ∧ PositionOk s ∧ TimerOk s ∧ Closed s

end Sys2Proof.Machine
end

