-- ==== Sys2Proof/Certificates/Slice0/Obligations.lean ====
section
/-! DEFINITION. The statements for the provers. Each docstring names the rule of spec/ it formalises or rests on. -/

open Sys2Proof Sys2Proof.Machine

namespace Sys2Proof.Claims

/-- The generator's function of 40_prng.md R100, said by arithmetic: a logical shift left by n is a product with 2^n modulo 2^32, a
logical shift right a truncating division by 2^n. -/
def generator (x : Word) : Word :=
  let a := x ^^^ (x * 8192#32)
  let b := a ^^^ (a / 131072#32)
  b ^^^ (b * 32#32)

/-- The ten NOTE rows whose symbol is in the note table, with their symbol codes (30_encoding.md R85). -/
def hitRows (du : BitVec 12) : List (Instr × Fin 10) :=
  [(.noteRest du, 0), (.noteS1 du, 1), (.noteS2 du, 2), (.noteS3 du, 3), (.noteS4 du, 4), (.noteS5 du, 5), (.noteS6 du, 6), (.noteS7 du, 7), (.noteS8 du, 8), (.noteS9 du, 9)]

/-- The six NOTE rows whose symbol is not in the note table (30_encoding.md R85). -/
def missRows (du : BitVec 12) : List Instr :=
  [.noteX10 du, .noteX11 du, .noteX12 du, .noteX13 du, .noteX14 du, .noteX15 du]

/-- `s` after a STEP word whose lines and multiplier are given, in a pattern of length `len` (41_light_sequencer.md R110, A2 to A5). -/
def afterStep (lines : BitVec 9) (mult : BitVec 7) (len : Nat) (s : State) : State :=
  { s with
    led := lines
    deadline := BitVec.ofNat 32 (mult.toNat * 2000)
    ltick := 0
    pidx := if (s.pidx + 1).toNat = len then 0 else s.pidx + 1
    prep := if (s.pidx + 1).toNat = len then (if s.prep + 1 = s.ptgt then 0 else s.prep + 1) else s.prep
    psel := if (s.pidx + 1).toNat = len ∧ s.prep + 1 = s.ptgt then 3 else s.psel }

/-- `s` with the melody cursor moved in a melody of length `len` (42_tone_scheduler.md R120, S4). -/
def afterNote (len : Nat) (s : State) : State :=
  { s with
    midx := if (s.midx + 1).toNat = len then 0 else s.midx + 1
    msel := if (s.midx + 1).toNat = len then 3 else s.msel }

/-- `s` with the task of a note: half-period value `v`, duration-unit `du`, beat `beat` (42_tone_scheduler.md R122), marked live. -/
def withTask (v du beat : Nat) (s : State) : State :=
  { s with
    tHp := BitVec.ofNat 32 (v / 50)
    tAd := BitVec.ofNat 32 (du * beat * 20)
    tPs := BitVec.ofNat 32 (beat * 10)
    playing := true }

end Sys2Proof.Claims

open Sys2Proof.Claims

/-! ### Reset -/

/-- 70_reset_and_hazards.md R180: from any state RESET completes with every one of the 24 registers at its reset value, the phase IDLE;
a turn of the reset input, listed or chosen freely, performs it, whatever the main context and the interrupt were doing. -/
def Obligations.ResetSetsEveryRegister : Prop :=
  (∀ s : State, ∃ t, exec .reset s = .next t ∧ t.rng = s.cfg.seed ∧ t.psel = 3 ∧ t.pidx = 0 ∧ t.prep = 0 ∧ t.ptgt = 0 ∧
    t.deadline = 0 ∧ t.led = 0 ∧ t.msel = 3 ∧ t.midx = 0 ∧ t.beat = 0 ∧ t.tHp = 0 ∧ t.tAd = 0 ∧ t.tPs = 0 ∧ t.playing = false ∧
    t.ltick = 0 ∧ t.dcnt = 0 ∧ t.scnt = 0 ∧ t.ocnt = 0 ∧ t.insil = false ∧ t.buz = false ∧ t.ien = true ∧ t.tpend = false ∧
    t.tarm = true ∧ t.mph = .boot ∧ t.phase = .idle) ∧
  ∀ s : State, mover s = some .reset → step s = exec .reset (taken s)

/-- 70_reset_and_hazards.md R181, 20_memory.md R60: the parameters and the tables are constants and outlast a RESET. The model's own
(log entries 6, 20): the events still to come and the count of free choices stay, and the local value `hit` is cleared. -/
def Obligations.ResetKeepsTheParameters : Prop :=
  ∀ s t : State, exec .reset s = .next t → t.cfg = s.cfg ∧ t.sched = s.sched ∧ t.draw = s.draw ∧ t.hit = false

/-- The invariant of the closed block holds right after reset, for every configuration 00_scope.md R10 admits and for the device's own
(10_state.md R37, 70_reset_and_hazards.md R181, R182). -/
def Obligations.InvariantHoldsAtReset : Prop :=
  (∀ c : Params, c.wf = true → Inv (State.resetOf c)) ∧ State.reset = State.resetOf Config.params ∧ Inv State.reset

/-! ### The generator -/

/-- 40_prng.md R100: NEXT stores the three-stage mix of `RNG` in `RNG` and touches nothing else. -/
def Obligations.NextStoresTheMixedValue : Prop :=
  ∀ s : State, exec .next s = .next { s with rng := generator s.rng }

/-- 40_prng.md R101: NEXT maps only 0 to 0, no two values to one, and no step makes a non-zero generator zero while the seed is not. -/
def Obligations.GeneratorIsNeverZero : Prop :=
  (∀ s : State, ∃ t, exec .next s = .next t ∧ (t.rng = 0 ↔ s.rng = 0)) ∧
  (∀ s s' t t' : State, exec .next s = .next t → exec .next s' = .next t' → t.rng = t'.rng → s.rng = s'.rng) ∧
  ∀ s t : State, s.rng ≠ 0 → s.cfg.seed ≠ 0 → step s = .next t → t.rng ≠ 0

/-- 10_state.md R21, 40_prng.md R104: an operation other than RESET and NEXT changes `RNG` only where it makes a pick. -/
def Obligations.GeneratorMovesOnlyAtAPick : Prop :=
  ∀ (i : Instr) (s t : State), exec i s = .next t → t.rng = s.rng ∨ i = .reset ∨ i = .next ∨
    (s.psel = 3 ∧ (i = .advance ∨ i = .poll)) ∨ (s.msel = 3 ∧ (i = .dispatch ∨ i = .poll))

/-! ### The tick -/

/-- 43_tick_playback.md R132 (with R131, R137): an IDLE tick counts the tick, forces the line low, re-arms, and does nothing else. -/
def Obligations.IdleTickForcesTheLineLow : Prop :=
  ∀ s : State, s.playing = false →
    exec .tick s = .next { s with ltick := s.ltick + 1, buz := false, tarm := true }

/-- 43_tick_playback.md R133, with the rest test of R134 and the oscillation of R135: an ACTIVE tick, on the incremented counters. -/
def Obligations.ActiveTickTestsDurationThenRestThenOscillates : Prop :=
  ∀ s : State, s.playing = true → s.insil = false →
    exec .tick s = .next (
      if s.tAd < s.dcnt + 1 then
        { s with ltick := s.ltick + 1, tarm := true, insil := true, dcnt := 0, ocnt := 0, buz := false }
      else if s.tHp = 0 then
        { s with ltick := s.ltick + 1, tarm := true, dcnt := s.dcnt + 1, buz := false }
      else if s.tHp < s.ocnt + 1 then
        { s with ltick := s.ltick + 1, tarm := true, dcnt := s.dcnt + 1, ocnt := 0, buz := !s.buz }
      else
        { s with ltick := s.ltick + 1, tarm := true, dcnt := s.dcnt + 1, ocnt := s.ocnt + 1 })

/-- 43_tick_playback.md R136: a POST_SILENCE tick; and a TICK that clears `PLAYING` is the one that ends the post-silence. -/
def Obligations.PostSilenceTickEndsTheNote : Prop :=
  (∀ s : State, s.playing = true → s.insil = true →
    exec .tick s = .next (
      if s.tPs < s.scnt + 1 then
        { s with ltick := s.ltick + 1, tarm := true, buz := false, playing := false, scnt := 0, insil := false }
      else
        { s with ltick := s.ltick + 1, tarm := true, buz := false, scnt := s.scnt + 1 })) ∧
  ∀ s t : State, exec .tick s = .next t → s.playing = true → t.playing = false → s.insil = true ∧ s.tPs < s.scnt + 1

/-- 43_tick_playback.md R137, R143, R131: TICK completes in every state, re-arms on every path, counts the tick, never sets `PLAYING`,
and leaves every register of the main context, `IEN`, `TPEND` and the tables alone. -/
def Obligations.TickRearmsOnEveryPath : Prop :=
  ∀ s : State, ∃ t, exec .tick s = .next t ∧ t.tarm = true ∧ t.ltick = s.ltick + 1 ∧ (t.playing = true → s.playing = true) ∧
    t = { s with
      ltick := t.ltick, tarm := t.tarm, playing := t.playing, dcnt := t.dcnt, scnt := t.scnt, ocnt := t.ocnt, insil := t.insil,
      buz := t.buz }

/-- 43_tick_playback.md R138: in the closed block the phase changes from IDLE to ACTIVE by S3, from ACTIVE to POST_SILENCE and from
POST_SILENCE to IDLE by a TICK whose incremented counter exceeds its threshold, and in no other way but RESET. -/
def Obligations.PhaseChangesOnlyAsTheTableSays : Prop :=
  ∀ s t : State, Inv s → step s = .next t → t.phase ≠ s.phase → mover s ≠ some .reset →
    (s.phase = .idle ∧ t.phase = .active ∧ mover s = some .main ∧ s.mph = .s3) ∨
    (s.phase = .active ∧ t.phase = .postSilence ∧ mover s = some .tick ∧ s.tAd < s.dcnt + 1) ∨
    (s.phase = .postSilence ∧ t.phase = .idle ∧ mover s = some .tick ∧ s.tPs < s.scnt + 1)

/-- 43_tick_playback.md R139 (a) to (e): the state after each tick of a note with `T_AD = D`, `T_HP = H`, `T_PS = S`. -/
def Obligations.NoteTicksFollowTheClosedForm : Prop :=
  ∀ s : State, s.playing = true → s.insil = false → s.dcnt = 0 → s.scnt = 0 → s.ocnt = 0 → s.buz = false →
    s.tAd.toNat < 2 ^ 32 - 1 → s.tPs.toNat < 2 ^ 32 - 1 →
    let D := s.tAd.toNat
    let H := s.tHp.toNat
    let S := s.tPs.toNat
    (∀ k, k ≤ D → ∃ t, repeatOp .tick k s = .next t ∧ t.phase = .active ∧ t.dcnt.toNat = k ∧ t.scnt = 0 ∧
      t.buz = decide (0 < H ∧ k / (H + 1) % 2 = 1) ∧ t.ocnt.toNat = if H = 0 then 0 else k % (H + 1)) ∧
    (∀ j, j ≤ S → ∃ t, repeatOp .tick (D + 1 + j) s = .next t ∧ t.phase = .postSilence ∧ t.dcnt = 0 ∧ t.ocnt = 0 ∧
      t.scnt.toNat = j ∧ t.buz = false) ∧
    ∃ t, repeatOp .tick (D + S + 2) s = .next t ∧ t.phase = .idle ∧ t.dcnt = 0 ∧ t.scnt = 0 ∧ t.ocnt = 0 ∧ t.insil = false ∧
      t.buz = false

/-- 43_tick_playback.md R141: a threshold of `2^CW - 1` is never exceeded, and DISPATCH never writes one. -/
def Obligations.TopThresholdHangsAndIsNeverDispatched : Prop :=
  (∀ s : State, s.playing = true → s.insil = false → s.tAd = BitVec.allOnes 32 →
    ∀ n, ∃ t, repeatOp .tick n s = .next t ∧ t.phase = .active) ∧
  (∀ s : State, s.playing = true → s.insil = true → s.tPs = BitVec.allOnes 32 →
    ∀ n, ∃ t, repeatOp .tick n s = .next t ∧ t.phase = .postSilence) ∧
  (∀ s t : State, s.playing = true → s.insil = false → s.tHp = BitVec.allOnes 32 → exec .tick s = .next t →
    t.buz = s.buz ∨ t.insil = true) ∧
  ∀ s t : State, exec .dispatch s = .next t → t.playing = true →
    t.tAd ≠ BitVec.allOnes 32 ∧ t.tPs.toNat ≤ 655350 ∧ t.tHp.toNat ≤ 1310

/-! ### The light sequencer -/

/-- 41_light_sequencer.md R112, R113, R114, R115: the STEP word's whole effect with a selected pattern. The model's own: that STEP as an
instruction is A2 to A5 (log entry 7), that a cursor past its pattern moves on (log entry 26), and that STEP with no pattern selected is
refused (log entry 11). -/
def Obligations.StepDrivesLinesAndSetsDeadline : Prop :=
  (∀ (s : State) (lines : BitVec 9) (mult : BitVec 7) (p : Fin 3), s.psel.toNat = p.val →
    exec (.step lines mult) s = .next (afterStep lines mult s.cfg.mem.pattern[p].length s)) ∧
  ∀ (s : State) (lines : BitVec 9) (mult : BitVec 7), s.psel = 3 →
    exec (.step lines mult) s = .refused (.noTableSelected .pattern 3)

/-- 30_encoding.md R81, R86, 10_state.md R24: read from the raw word, line i is active when bit i is 1, and the deadline is bits 15:9
times 2000, never wrapped. -/
def Obligations.EmittedLinesFollowTheWord : Prop :=
  ∀ (s t : State) (w : Elem), exec (decodeStep w) s = .next t →
    (∀ i : Fin 9, t.line i = w.getLsbD i.val) ∧ t.deadline.toNat = w.toNat / 512 * 2000

/-- 41_light_sequencer.md R110, R111: ADVANCE picks `NEXT mod 3` with repeat target 1 if nothing is selected, and then has the whole
effect of the STEP word under the cursor. -/
def Obligations.AdvancePicksAndEmitsTheCurrentStep : Prop :=
  ∀ (s : State) (p : Fin 3) (w : Elem),
    (if s.psel = 3 then (generator s.rng).toNat % 3 = p.val else s.psel.toNat = p.val) →
    s.cfg.mem.pattern[p][s.pidx.toNat]? = some w →
    exec .advance s = .next (afterStep (BitVec.ofNat 9 w.toNat) (BitVec.ofNat 7 (w.toNat / 512)) s.cfg.mem.pattern[p].length
      { s with
        rng := if s.psel = 3 then generator s.rng else s.rng
        psel := BitVec.ofNat 2 p.val
        ptgt := if s.psel = 3 then 1 else s.ptgt })

/-- 41_light_sequencer.md R114, R118: from a fresh selection of pattern p, ADVANCE called `len` times emits every step once in order,
draws nothing, keeps the selection until the last call, and ends in the re-pick state. -/
def Obligations.PatternPlaysExactlyOnce : Prop :=
  ∀ (s : State) (p : Fin 3), s.cfg.wf = true → s.psel.toNat = p.val → s.pidx = 0 → s.prep = 0 → s.ptgt = 1 →
    ∀ (k : Nat) (w : Elem), s.cfg.mem.pattern[p][k]? = some w →
      ∃ t, repeatOp .advance (k + 1) s = .next t ∧ t.led = BitVec.ofNat 9 w.toNat ∧ t.deadline.toNat = w.toNat / 512 * 2000 ∧
        t.ltick = 0 ∧ t.rng = s.rng ∧ t.prep = 0 ∧
        (k + 1 < s.cfg.mem.pattern[p].length → t.psel = s.psel ∧ t.pidx.toNat = k + 1) ∧
        (k + 1 = s.cfg.mem.pattern[p].length → t.psel = 3 ∧ t.pidx = 0)

/-- 41_light_sequencer.md R116: after a step of multiplier 0 the next light test holds whatever the tick count is, and the step's lines
stay on the outputs. -/
def Obligations.MultiplierZeroAdvancesAtTheNextPoll : Prop :=
  ∀ (s t : State) (lines : BitVec 9), exec (.step lines 0) s = .next t → t.led = lines ∧
    ∀ v : Word, mainStep { t with mph := .p1, ltick := v } = .next { t with mph := .a1, ltick := v }

/-! ### The tone scheduler -/

/-- 42_tone_scheduler.md R122, R123, R125, R126: each of the ten NOTE rows in the note table writes its task, marks it live and moves
the cursor, with any duration-unit. The model's own: that a NOTE entry as an instruction is S2 to S4 (log entry 7), and that a cursor past
its melody moves on (log entry 26). -/
def Obligations.TableNotesDispatchTheirTask : Prop :=
  ∀ (s : State) (du : BitVec 12) (i : Instr) (k : Fin 10) (m : Fin 2), (i, k) ∈ hitRows du → s.playing = false →
    s.msel.toNat = m.val →
    exec i s = .next (afterNote s.cfg.mem.melody[m].notes.length
      (withTask s.cfg.mem.noteVal[k].toNat du.toNat s.beat.toNat s))

/-- 42_tone_scheduler.md R124: each of the six NOTE rows outside the note table moves the cursor and does nothing else. The model's own:
that a NOTE entry as an instruction is S2 to S4 (log entry 7), and that a cursor past its melody moves on (log entry 26). -/
def Obligations.AbsentSymbolsOnlyMoveTheCursor : Prop :=
  ∀ (s : State) (du : BitVec 12) (i : Instr) (m : Fin 2), i ∈ missRows du → s.playing = false → s.msel.toNat = m.val →
    exec i s = .next (afterNote s.cfg.mem.melody[m].notes.length s)

/-- 93_implementation_defined.md U3: with a live task DISPATCH is refused. The model's own: with a live task a NOTE entry on its own is
refused (log entry 10), and so is a NOTE entry on its own where `MSEL` is 2 or NONE, for which U5 and U6 name only table reads
(log entry 11). -/
def Obligations.NotesAreRefusedWhilePlayingOrUnselected : Prop :=
  ∀ (s : State) (du : BitVec 12) (i : Instr), i = .dispatch ∨ i ∈ (hitRows du).map Prod.fst ∨ i ∈ missRows du →
    (s.playing = true → exec i s = .refused .dispatchWhilePlaying) ∧
    (s.playing = false → i ≠ .dispatch → (s.msel = 2 ∨ s.msel = 3) →
      exec i s = .refused (.noTableSelected .melody s.msel))

/-- 42_tone_scheduler.md R120, R121, R128: DISPATCH picks `NEXT mod 2` and loads the beat if nothing is selected, and then dispatches
`(NOTE_VAL[s] / 50, d * b * 20, b * 10)` for the entry `(s, d)` under the cursor, or skips an absent symbol. -/
def Obligations.DispatchPicksAndDispatchesTheCurrentNote : Prop :=
  ∀ (s : State) (m : Fin 2) (e : Elem), s.playing = false →
    (if s.msel = 3 then (generator s.rng).toNat % 2 = m.val else s.msel.toNat = m.val) →
    s.cfg.mem.melody[m].notes[s.midx.toNat]? = some e →
    ∀ t : State, t = { s with
        rng := if s.msel = 3 then generator s.rng else s.rng
        msel := BitVec.ofNat 2 m.val
        beat := if s.msel = 3 then s.cfg.mem.melody[m].beat else s.beat } →
    (∀ k : Fin 10, e.toNat % 16 = k.val → exec .dispatch s = .next (afterNote s.cfg.mem.melody[m].notes.length
      (withTask s.cfg.mem.noteVal[k].toNat (e.toNat / 16) t.beat.toNat t))) ∧
    (9 < e.toNat % 16 → exec .dispatch s = .next (afterNote s.cfg.mem.melody[m].notes.length t))

/-- 43_tick_playback.md R139 (f), 30_encoding.md R94, 20_memory.md R70 (e): a note DISPATCH makes live stays live for exactly
`T_AD + T_PS + 2` ticks, with its task unchanged, and leaves the playback state at 0. -/
def Obligations.DispatchedNoteLastsItsTicks : Prop :=
  ∀ s t : State, DataOk s → exec .dispatch s = .next t → t.playing = true →
    (∀ k, k < t.tAd.toNat + t.tPs.toNat + 2 → ∃ u, repeatOp .tick k t = .next u ∧ u.playing = true ∧ u.tHp = t.tHp ∧
      u.tAd = t.tAd ∧ u.tPs = t.tPs) ∧
    ∃ u, repeatOp .tick (t.tAd.toNat + t.tPs.toNat + 2) t = .next u ∧ u.playing = false ∧ u.dcnt = 0 ∧ u.scnt = 0 ∧ u.ocnt = 0 ∧
      u.insil = false ∧ u.buz = false ∧ u.midx = t.midx ∧ u.msel = t.msel

/-- 20_memory.md R62, 93_implementation_defined.md U5, U6: ADVANCE and DISPATCH with a cursor outside its table are refused, be the table
the selected one or the one the lazy pick gives, and so is DISPATCH with `MSEL = 2`. -/
def Obligations.ReadsOutsideATableAreRefused : Prop :=
  (∀ (s : State) (p : Fin 3), s.psel.toNat = p.val → s.cfg.mem.pattern[p].length ≤ s.pidx.toNat →
    exec .advance s = .refused (.tableReadOutOfRange ⟨.pattern, p.val, s.pidx.toNat⟩)) ∧
  (∀ (s : State) (p : Fin 3), s.psel = 3 → (generator s.rng).toNat % 3 = p.val →
    s.cfg.mem.pattern[p].length ≤ s.pidx.toNat →
    exec .advance s = .refused (.tableReadOutOfRange ⟨.pattern, p.val, s.pidx.toNat⟩)) ∧
  (∀ (s : State) (m : Fin 2), s.playing = false → s.msel.toNat = m.val → s.cfg.mem.melody[m].notes.length ≤ s.midx.toNat →
    exec .dispatch s = .refused (.tableReadOutOfRange ⟨.melody, m.val, s.midx.toNat⟩)) ∧
  (∀ (s : State) (m : Fin 2), s.playing = false → s.msel = 3 → (generator s.rng).toNat % 2 = m.val →
    s.cfg.mem.melody[m].notes.length ≤ s.midx.toNat →
    exec .dispatch s = .refused (.tableReadOutOfRange ⟨.melody, m.val, s.midx.toNat⟩)) ∧
  ∀ s : State, s.playing = false → s.msel = 2 →
    exec .dispatch s = .refused (.tableReadOutOfRange ⟨.melody, 2, s.midx.toNat⟩)

/-! ### The main loop -/

/-- 44_main_loop.md R150 to R154: POLL performs ADVANCE if `LTICK >= DEADLINE`, then DISPATCH if `PLAYING = 0`, each as it stands on its
own. That it ends at P1 is log entry 8. -/
def Obligations.PollRunsTheDueWorkInOrder : Prop :=
  ∀ s a d : State, (if s.deadline ≤ s.ltick then exec .advance s = .next a else a = s) →
    (if a.playing = false then exec .dispatch a = .next d else d = a) →
    exec .poll s = .next { d with mph := .p1 }

/-- 44_main_loop.md R150 to R154, 20_memory.md R62: POLL completes in every state whose data are in order, and leaves the interrupt
context's registers alone; without a due deadline the light side stays as it is, with a live task the buzzer side does. That it ends at P1
is log entry 8. -/
def Obligations.PollCompletes : Prop :=
  ∀ s : State, DataOk s → ∃ t, exec .poll s = .next t ∧ DataOk t ∧ t.mph = .p1 ∧
    t.dcnt = s.dcnt ∧ t.scnt = s.scnt ∧ t.ocnt = s.ocnt ∧ t.insil = s.insil ∧ t.buz = s.buz ∧ t.ien = s.ien ∧ t.tpend = s.tpend ∧
    t.tarm = s.tarm ∧ t.hit = s.hit ∧ t.cfg = s.cfg ∧ t.sched = s.sched ∧ t.draw = s.draw ∧
    (s.ltick < s.deadline → t.psel = s.psel ∧ t.pidx = s.pidx ∧ t.prep = s.prep ∧ t.ptgt = s.ptgt ∧ t.deadline = s.deadline ∧
      t.led = s.led ∧ t.ltick = s.ltick) ∧
    (s.deadline ≤ s.ltick → t.ltick = 0) ∧
    (s.playing = true → t.msel = s.msel ∧ t.midx = s.midx ∧ t.beat = s.beat ∧ t.tHp = s.tHp ∧ t.tAd = s.tAd ∧ t.tPs = s.tPs ∧
      t.playing = true)

/-- 44_main_loop.md R153, R156: the first iteration after reset picks the pattern with the first draw and the melody with the second,
lights the pattern's first step and dispatches (or skips) the melody's first note. That POLL driven alone ends at P1 is log entry 8. -/
def Obligations.FirstPollAfterResetStartsLightsThenBuzzer : Prop :=
  ∀ (c : Params) (p : Fin 3) (m : Fin 2) (w e : Elem), c.wf = true → (generator c.seed).toNat % 3 = p.val →
    (generator (generator c.seed)).toNat % 2 = m.val → c.mem.pattern[p][0]? = some w → c.mem.melody[m].notes[0]? = some e →
    ∃ t, exec .poll (State.resetOf c) = .next t ∧ t.rng = generator (generator c.seed) ∧ t.led = BitVec.ofNat 9 w.toNat ∧
      t.deadline.toNat = w.toNat / 512 * 2000 ∧ t.ltick = 0 ∧ t.beat = c.mem.melody[m].beat ∧ t.mph = .p1 ∧
      t.playing = decide (e.toNat % 16 ≤ 9) ∧
      ∀ k : Fin 10, e.toNat % 16 = k.val → t.tHp.toNat = c.mem.noteVal[k].toNat / 50 ∧
        t.tAd = BitVec.ofNat 32 (e.toNat / 16 * t.beat.toNat * 20) ∧ t.tPs.toNat = t.beat.toNat * 10

/-- 44_main_loop.md R155: no later state depends on how many ticks fall during the startup delay. -/
def Obligations.TicksDuringBootLeaveNoTrace : Prop :=
  ∀ (c : Params) (n : Nat), c.wf = true → ∃ t u, repeatOp .tick n (State.resetOf c) = .next t ∧ exec .poll t = .next u ∧
    exec .poll (State.resetOf c) = .next u

/-- 60_exceptions.md R160, R164, 44_main_loop.md R150: a step that is a turn of the main context, listed or chosen freely, performs the
sub-step `MPH` names; and the successor of each position. -/
def Obligations.MainContextFollowsTheSuccessorRelation : Prop :=
  (∀ s : State, mover s = some .main → step s = mainStep (taken s)) ∧
  ∀ s t : State, mainStep s = .next t → t.mph =
    match s.mph with
    | .boot => .p1
    | .p1 => if s.deadline ≤ s.ltick then .a1 else .p2
    | .a1 => .a2
    | .a2 => .a3
    | .a3 => .a4
    | .a4 => .a5
    | .a5 => .p2
    | .p2 => if s.playing = false then .s1 else .p1
    | .s1 => .s2
    | .s2 => .s3
    | .s3 => .s4
    | .s4 => .p1

/-- 20_memory.md R71, 70_reset_and_hazards.md R188: sub-step A5 erases whatever ticks were counted before it. -/
def Obligations.TicksBeforeTheClearAreLost : Prop :=
  ∀ (s : State) (v : Word), s.mph = .a5 → mainStep { s with ltick := v } = .next { s with ltick := 0, mph := .p2 }

/-- 41_light_sequencer.md R110: the five sub-steps A1 to A5, with no tick between them, are ADVANCE, in every state. -/
def Obligations.AdvanceIsItsFiveSubSteps : Prop :=
  ∀ s : State, s.mph = .a1 → mainSteps 5 s = andThen (exec .advance s) fun t => .next { t with mph := .p2 }

/-- 42_tone_scheduler.md R120: the four sub-steps S1 to S4, with no tick between them, are DISPATCH. That the local value `hit` is false
after S3 is log entry 6. -/
def Obligations.DispatchIsItsFourSubSteps : Prop :=
  ∀ s : State, s.mph = .s1 → s.playing = false →
    mainSteps 4 s = andThen (exec .dispatch s) fun t => .next { t with mph := .p1, hit := false }

/-- 44_main_loop.md R150: one iteration of the main context from P1, sub-step by sub-step with no tick between, is POLL, in every state.
The model's own: POLL driven alone ends at P1 (log entry 8) and leaves the local value `hit`, which S3 clears where the iteration
dispatches (log entry 6). -/
def Obligations.PollIsItsSubSteps : Prop :=
  ∀ s : State, s.mph = .p1 →
    mainSteps (2 + (if s.deadline ≤ s.ltick then 5 else 0) + (if s.playing = false then 4 else 0)) s =
      andThen (exec .poll s) fun t => .next { t with hit := s.playing && s.hit }

/-! ### The interrupt and the interleaving -/

/-- 60_exceptions.md R162: a turn of the tick source, listed or chosen freely, fires if it is armed. That otherwise nothing moves is log
entry 3. -/
def Obligations.TickSourceFiresWhenArmed : Prop :=
  ∀ s : State, mover s = some .fire →
    (s.tarm = true → step s = .next { taken s with tpend := true, tarm := false }) ∧
    (s.tarm = false → step s = .next (taken s))

/-- 60_exceptions.md R163 to R166: at a turn of the interrupt context, listed or chosen freely, a pending, unmasked tick is taken: entry
clears `TPEND` and `IEN` and saves nothing, one whole TICK runs, return sets `IEN`, and the main context stands where it stood. The model's
own: the three are one step (log entry 4), and otherwise nothing moves (log entry 3). -/
def Obligations.PendingTickIsTakenWhole : Prop :=
  ∀ s : State, mover s = some .tick →
    (s.tpend = true → s.ien = true → ∃ t, exec .tick { taken s with tpend := false, ien := false } = .next t ∧
      t.mph = s.mph ∧ t.ien = false ∧ step s = .next { t with ien := true }) ∧
    (s.tpend = false ∨ s.ien = false → step s = .next (taken s))

/-- 60_exceptions.md R168: a tick step (entry, TICK, return) commutes with every sub-step of the main context but P1, A5, P2 and S3;
with S2 because no task is live there. -/
def Obligations.TickCommutesWithPrivateSubSteps : Prop :=
  ∀ s : State, s.mph ≠ .p1 → s.mph ≠ .a5 → s.mph ≠ .p2 → s.mph ≠ .s3 → (s.mph = .s2 → s.playing = false) →
    andThen (mainStep s) interruptStep = andThen (interruptStep s) mainStep

/-- 60_exceptions.md R175: which registers a step of each context leaves alone. -/
def Obligations.ContextsWriteOnlyTheirOwnRegisters : Prop :=
  ∀ s t : State, step s = .next t →
    (mover s = some .tick → t.rng = s.rng ∧ t.psel = s.psel ∧ t.pidx = s.pidx ∧ t.prep = s.prep ∧ t.ptgt = s.ptgt ∧
      t.deadline = s.deadline ∧ t.led = s.led ∧ t.msel = s.msel ∧ t.midx = s.midx ∧ t.beat = s.beat ∧ t.tHp = s.tHp ∧
      t.tAd = s.tAd ∧ t.tPs = s.tPs ∧ t.mph = s.mph ∧ t.hit = s.hit ∧ (t.playing = true → s.playing = true)) ∧
    (mover s = some .main → t.dcnt = s.dcnt ∧ t.scnt = s.scnt ∧ t.ocnt = s.ocnt ∧ t.insil = s.insil ∧ t.buz = s.buz ∧
      t.tarm = s.tarm ∧ t.tpend = s.tpend ∧ t.ien = s.ien ∧ (s.playing = true → t.playing = true) ∧
      (t.ltick = s.ltick ∨ t.ltick = 0)) ∧
    (mover s = some .fire → t = { s with sched := t.sched, draw := t.draw, tpend := t.tpend, tarm := t.tarm })

/-- 20_memory.md R70: the handoff. `PLAYING` is set only by S3 on a hit and cleared only by the tick that ends the post-silence; the
thresholds are written only by S2 while no task is live; RESET apart. -/
def Obligations.HandoffGateHasOneWriterEachWay : Prop :=
  ∀ s t : State, Inv s → step s = .next t → mover s ≠ some .reset →
    (s.playing = false → t.playing = true → mover s = some .main ∧ s.mph = .s3 ∧ s.hit = true) ∧
    (s.playing = true → t.playing = false → mover s = some .tick ∧ s.insil = true ∧ s.tPs < s.scnt + 1) ∧
    ((t.tHp ≠ s.tHp ∨ t.tAd ≠ s.tAd ∨ t.tPs ≠ s.tPs) → s.playing = false ∧ mover s = some .main ∧ s.mph = .s2)

/-! ### Whole-machine rules -/

/-- Every step keeps the invariant of the closed block (10_state.md R22, R25, R28, 20_memory.md R70, 60_exceptions.md R162, R166). -/
def Obligations.EveryStepKeepsTheInvariant : Prop :=
  ∀ s t : State, Inv s → step s = .next t → Inv t

/-- Every operation and every table word, driven alone as 30_encoding.md R84 allows, keeps the data in order. -/
def Obligations.EveryOperationKeepsTheData : Prop :=
  ∀ (i : Instr) (s t : State), DataOk s → exec i s = .next t → DataOk t

/-- 20_memory.md R62, 60_exceptions.md R170: "No crashes are possible by construction": no run of the closed block stops. -/
def Obligations.ClosedBlockNeverStops : Prop :=
  ∀ s : State, Inv s → NeverStops s

/-- 20_memory.md R60, R75, 10_state.md R35: no step writes a table or a parameter, so the tables keep their limits. -/
def Obligations.NoStepWritesATable : Prop :=
  ∀ s t : State, step s = .next t → t.cfg = s.cfg ∧ (s.cfg.mem.wf = true → t.cfg.mem.wf = true)

/-- 43_tick_playback.md R137, 70_reset_and_hazards.md R187, 60_exceptions.md R167: under fair turns and no reset the ticks never cease:
after any number of turns a tick is still to be taken. The model's own: that the interrupt context has fair turns too, which R167 asks of
the tick source and the main context only (log entry 27). -/
def Obligations.FairTurnsKeepTheTimeBaseRunning : Prop :=
  ∀ (turns : Nat → Choice) (s : State), FairTurns turns → (∀ n, turns n ≠ .reset) → Inv s →
    ∀ n, ∃ m t, n ≤ m ∧ afterTurns turns m s = .next t ∧ turns m = .tick ∧ t.tpend = true ∧ t.ien = true

/-! ### Encodings and the step -/

/-- 30_encoding.md R80 to R82, R84, R85, 20_memory.md R64: what the decoder reads from an instruction's own bytes is that instruction,
whatever bytes follow. That an OP3 code, which the spec gives three bits and no byte form, fills one byte is log entry 15. -/
def Obligations.DecodeOfEncodeIsTheInstruction : Prop :=
  ∀ (i : Instr) (rest : List Byte), decodeBytes i.format (encode i ++ rest) = .ok (i, rest)

/-- 30_encoding.md R81, R82, R84: each word has one meaning: encoding what was decoded gives the word back. -/
def Obligations.EncodeOfDecodeIsTheWord : Prop :=
  (∀ w : Elem, encodeWord (decodeStep w) = w) ∧ (∀ e : Elem, encodeWord (decodeNote e) = e) ∧
  ∀ (c : BitVec 3) (i : Instr), decodeOp c = some i → encodeWord i = c.setWidth 16

/-- 30_encoding.md R95: among the rows of its format an instruction's word selects its own row and no other. -/
def Obligations.WordsSelectOnlyTheirOwnRow : Prop :=
  ∀ (i : Instr) (r : TableRow), r ∈ opcodeTable →
    (r.selectedBy i.format (encodeWord i) = true ↔ r.mnemonic = mnemonicOf i)

/-- Words written out from 30_encoding.md R81, R82, R84 decode to what they stand for. -/
def Obligations.WrittenOutWordsDecode : Prop :=
  decodeStep 0b0000001_010000000 = .step 0b010000000 1 ∧ decodeNote 0b000000000001_1001 = .noteS9 1 ∧
  decodeNote 0b000000000010_0111 = .noteS7 2 ∧ decodeNote 0b000000000001_1100 = .noteX12 1 ∧
  decodeOp 0b000 = some .reset ∧ decodeOp 0b001 = some .tick ∧ decodeOp 0b010 = some .poll ∧
  decodeOp 0b011 = some .advance ∧ decodeOp 0b100 = some .dispatch ∧ decodeOp 0b101 = some .next

/-- 30_encoding.md R84, R88: the codes 110 and 111 and no others are refused, by the decoder and as elements of a trace. -/
def Obligations.ReservedCodesAndNoOthersAreRefused : Prop :=
  ∀ (c : BitVec 3), (decodeOp c = none ↔ 6 ≤ c.toNat) ∧
    ∀ (s : State) (rest : List Event), s.sched = .op c :: rest → 6 ≤ c.toNat → step s = .refused (.reservedOp c)

/-- 30_encoding.md R84, R93: a step whose next event is an OP3 code is exec of the operation it decodes to, with the event taken. -/
def Obligations.StepRunsTheDecodedOperation : Prop :=
  ∀ (s : State) (c : BitVec 3) (i : Instr) (rest : List Event), s.sched = .op c :: rest → decodeOp c = some i →
    step s = exec i { s with sched := rest }

/-- 41_light_sequencer.md R110, 42_tone_scheduler.md R120, 20_memory.md R75: with a table selected, ADVANCE and DISPATCH interpret the
table word their cursor names. The model's own: such a step is exec of that word as an instruction, because STEP is A2 to A5 and a NOTE
entry S2 to S4 (log entry 7), and with a live task because DISPATCH and the NOTE entry are refused alike (log entry 10). -/
def Obligations.StepRunsTheWordUnderTheCursor : Prop :=
  (∀ (s : State) (rest : List Event) (w : Elem), s.sched = .op 0b011 :: rest → s.psel ≠ 3 →
    memRead s.cfg.mem ⟨.pattern, s.psel.toNat, s.pidx.toNat⟩ = some w →
    step s = exec (decodeStep w) { s with sched := rest }) ∧
  ∀ (s : State) (rest : List Event) (e : Elem), s.sched = .op 0b100 :: rest → s.msel ≠ 3 →
    memRead s.cfg.mem ⟨.melody, s.msel.toNat, s.midx.toNat⟩ = some e →
    step s = exec (decodeNote e) { s with sched := rest }

/-- Log entries 13, 14: a table word placed by withFetchWord is what the very next step runs. -/
def Obligations.PlacedWordIsWhatRunsNext : Prop :=
  ∀ (s : State) (nbits w : Nat) (i : Instr), (nbits = 8 ∨ nbits = 16) → decodeTableWord nbits w = some i →
    step (s.withFetchWord nbits w) = exec i { s.withFetchWord nbits w with sched := s.sched }

/-- 30_encoding.md R83, 20_memory.md R64: a serialised pattern or melody reads back, whatever bytes follow. -/
def Obligations.SerialisedTablesReadBack : Prop :=
  (∀ (words : List Elem) (rest : List Byte), words.length < 65536 →
    loadPattern (patternBytes words ++ rest) = some (words, rest)) ∧
  ∀ (m : Melody) (rest : List Byte), m.notes.length < 65536 → loadMelody (melodyBytes m ++ rest) = some (m, rest)
end

