-- ==== Sys2Proof/Laws/State.lean ====
section
/-! SUPPORT. One lemma per named update of the state: what every field of the state is after it. Each is true by unfolding that one
update, and simp reads it as one rewriting rule per field. -/

namespace Sys2Proof.Machine

@[simp] theorem toPhase_fields (p : MainPhase) (s : State) :
    (toPhase p s).rng = s.rng ∧ (toPhase p s).psel = s.psel ∧ (toPhase p s).pidx = s.pidx ∧ (toPhase p s).prep = s.prep ∧
    (toPhase p s).ptgt = s.ptgt ∧ (toPhase p s).deadline = s.deadline ∧ (toPhase p s).led = s.led ∧
    (toPhase p s).msel = s.msel ∧ (toPhase p s).midx = s.midx ∧ (toPhase p s).beat = s.beat ∧ (toPhase p s).tHp = s.tHp ∧
    (toPhase p s).tAd = s.tAd ∧ (toPhase p s).tPs = s.tPs ∧ (toPhase p s).playing = s.playing ∧
    (toPhase p s).ltick = s.ltick ∧ (toPhase p s).dcnt = s.dcnt ∧ (toPhase p s).scnt = s.scnt ∧
    (toPhase p s).ocnt = s.ocnt ∧ (toPhase p s).insil = s.insil ∧ (toPhase p s).buz = s.buz ∧ (toPhase p s).ien = s.ien ∧
    (toPhase p s).tpend = s.tpend ∧ (toPhase p s).tarm = s.tarm ∧ (toPhase p s).mph = p ∧ (toPhase p s).hit = s.hit ∧
    (toPhase p s).cfg = s.cfg ∧ (toPhase p s).sched = s.sched ∧ (toPhase p s).draw = s.draw := by
  and_intros <;> rfl

@[simp] theorem emitLines_fields (lines : BitVec 9) (s : State) :
    (emitLines lines s).rng = s.rng ∧ (emitLines lines s).psel = s.psel ∧ (emitLines lines s).pidx = s.pidx ∧
    (emitLines lines s).prep = s.prep ∧ (emitLines lines s).ptgt = s.ptgt ∧ (emitLines lines s).deadline = s.deadline ∧
    (emitLines lines s).led = lines ∧ (emitLines lines s).msel = s.msel ∧ (emitLines lines s).midx = s.midx ∧
    (emitLines lines s).beat = s.beat ∧ (emitLines lines s).tHp = s.tHp ∧ (emitLines lines s).tAd = s.tAd ∧
    (emitLines lines s).tPs = s.tPs ∧ (emitLines lines s).playing = s.playing ∧ (emitLines lines s).ltick = s.ltick ∧
    (emitLines lines s).dcnt = s.dcnt ∧ (emitLines lines s).scnt = s.scnt ∧ (emitLines lines s).ocnt = s.ocnt ∧
    (emitLines lines s).insil = s.insil ∧ (emitLines lines s).buz = s.buz ∧ (emitLines lines s).ien = s.ien ∧
    (emitLines lines s).tpend = s.tpend ∧ (emitLines lines s).tarm = s.tarm ∧ (emitLines lines s).mph = s.mph ∧
    (emitLines lines s).hit = s.hit ∧ (emitLines lines s).cfg = s.cfg ∧ (emitLines lines s).sched = s.sched ∧
    (emitLines lines s).draw = s.draw := by
  and_intros <;> rfl

@[simp] theorem setDeadline_fields (mult : BitVec 7) (s : State) :
    (setDeadline mult s).rng = s.rng ∧ (setDeadline mult s).psel = s.psel ∧ (setDeadline mult s).pidx = s.pidx ∧
    (setDeadline mult s).prep = s.prep ∧ (setDeadline mult s).ptgt = s.ptgt ∧
    (setDeadline mult s).deadline = deadlineOf mult ∧ (setDeadline mult s).led = s.led ∧
    (setDeadline mult s).msel = s.msel ∧ (setDeadline mult s).midx = s.midx ∧ (setDeadline mult s).beat = s.beat ∧
    (setDeadline mult s).tHp = s.tHp ∧ (setDeadline mult s).tAd = s.tAd ∧ (setDeadline mult s).tPs = s.tPs ∧
    (setDeadline mult s).playing = s.playing ∧ (setDeadline mult s).ltick = s.ltick ∧ (setDeadline mult s).dcnt = s.dcnt ∧
    (setDeadline mult s).scnt = s.scnt ∧ (setDeadline mult s).ocnt = s.ocnt ∧ (setDeadline mult s).insil = s.insil ∧
    (setDeadline mult s).buz = s.buz ∧ (setDeadline mult s).ien = s.ien ∧ (setDeadline mult s).tpend = s.tpend ∧
    (setDeadline mult s).tarm = s.tarm ∧ (setDeadline mult s).mph = s.mph ∧ (setDeadline mult s).hit = s.hit ∧
    (setDeadline mult s).cfg = s.cfg ∧ (setDeadline mult s).sched = s.sched ∧ (setDeadline mult s).draw = s.draw := by
  and_intros <;> rfl

@[simp] theorem clearTicks_fields (s : State) :
    (clearTicks s).rng = s.rng ∧ (clearTicks s).psel = s.psel ∧ (clearTicks s).pidx = s.pidx ∧
    (clearTicks s).prep = s.prep ∧ (clearTicks s).ptgt = s.ptgt ∧ (clearTicks s).deadline = s.deadline ∧
    (clearTicks s).led = s.led ∧ (clearTicks s).msel = s.msel ∧ (clearTicks s).midx = s.midx ∧
    (clearTicks s).beat = s.beat ∧ (clearTicks s).tHp = s.tHp ∧ (clearTicks s).tAd = s.tAd ∧ (clearTicks s).tPs = s.tPs ∧
    (clearTicks s).playing = s.playing ∧ (clearTicks s).ltick = 0 ∧ (clearTicks s).dcnt = s.dcnt ∧
    (clearTicks s).scnt = s.scnt ∧ (clearTicks s).ocnt = s.ocnt ∧ (clearTicks s).insil = s.insil ∧
    (clearTicks s).buz = s.buz ∧ (clearTicks s).ien = s.ien ∧ (clearTicks s).tpend = s.tpend ∧
    (clearTicks s).tarm = s.tarm ∧ (clearTicks s).mph = s.mph ∧ (clearTicks s).hit = s.hit ∧ (clearTicks s).cfg = s.cfg ∧
    (clearTicks s).sched = s.sched ∧ (clearTicks s).draw = s.draw := by
  and_intros <;> rfl

@[simp] theorem writeTask_fields (value : Elem) (du : BitVec 12) (s : State) :
    (writeTask value du s).rng = s.rng ∧ (writeTask value du s).psel = s.psel ∧ (writeTask value du s).pidx = s.pidx ∧
    (writeTask value du s).prep = s.prep ∧ (writeTask value du s).ptgt = s.ptgt ∧
    (writeTask value du s).deadline = s.deadline ∧ (writeTask value du s).led = s.led ∧
    (writeTask value du s).msel = s.msel ∧ (writeTask value du s).midx = s.midx ∧ (writeTask value du s).beat = s.beat ∧
    (writeTask value du s).tHp = halfPeriodOf value ∧ (writeTask value du s).tAd = activeOf du s.beat ∧
    (writeTask value du s).tPs = silenceOf s.beat ∧ (writeTask value du s).playing = s.playing ∧
    (writeTask value du s).ltick = s.ltick ∧ (writeTask value du s).dcnt = s.dcnt ∧ (writeTask value du s).scnt = s.scnt ∧
    (writeTask value du s).ocnt = s.ocnt ∧ (writeTask value du s).insil = s.insil ∧ (writeTask value du s).buz = s.buz ∧
    (writeTask value du s).ien = s.ien ∧ (writeTask value du s).tpend = s.tpend ∧ (writeTask value du s).tarm = s.tarm ∧
    (writeTask value du s).mph = s.mph ∧ (writeTask value du s).hit = s.hit ∧ (writeTask value du s).cfg = s.cfg ∧
    (writeTask value du s).sched = s.sched ∧ (writeTask value du s).draw = s.draw := by
  and_intros <;> rfl

@[simp] theorem goLive_fields (hit : Bool) (s : State) :
    (goLive hit s).rng = s.rng ∧ (goLive hit s).psel = s.psel ∧ (goLive hit s).pidx = s.pidx ∧
    (goLive hit s).prep = s.prep ∧ (goLive hit s).ptgt = s.ptgt ∧ (goLive hit s).deadline = s.deadline ∧
    (goLive hit s).led = s.led ∧ (goLive hit s).msel = s.msel ∧ (goLive hit s).midx = s.midx ∧
    (goLive hit s).beat = s.beat ∧ (goLive hit s).tHp = s.tHp ∧ (goLive hit s).tAd = s.tAd ∧ (goLive hit s).tPs = s.tPs ∧
    (goLive hit s).playing = (s.playing || hit) ∧ (goLive hit s).ltick = s.ltick ∧ (goLive hit s).dcnt = s.dcnt ∧
    (goLive hit s).scnt = s.scnt ∧ (goLive hit s).ocnt = s.ocnt ∧ (goLive hit s).insil = s.insil ∧
    (goLive hit s).buz = s.buz ∧ (goLive hit s).ien = s.ien ∧ (goLive hit s).tpend = s.tpend ∧
    (goLive hit s).tarm = s.tarm ∧ (goLive hit s).mph = s.mph ∧ (goLive hit s).hit = s.hit ∧ (goLive hit s).cfg = s.cfg ∧
    (goLive hit s).sched = s.sched ∧ (goLive hit s).draw = s.draw := by
  and_intros <;> rfl

@[simp] theorem timerFire_fields (s : State) :
    (timerFire s).rng = s.rng ∧ (timerFire s).psel = s.psel ∧ (timerFire s).pidx = s.pidx ∧ (timerFire s).prep = s.prep ∧
    (timerFire s).ptgt = s.ptgt ∧ (timerFire s).deadline = s.deadline ∧ (timerFire s).led = s.led ∧
    (timerFire s).msel = s.msel ∧ (timerFire s).midx = s.midx ∧ (timerFire s).beat = s.beat ∧ (timerFire s).tHp = s.tHp ∧
    (timerFire s).tAd = s.tAd ∧ (timerFire s).tPs = s.tPs ∧ (timerFire s).playing = s.playing ∧
    (timerFire s).ltick = s.ltick ∧ (timerFire s).dcnt = s.dcnt ∧ (timerFire s).scnt = s.scnt ∧
    (timerFire s).ocnt = s.ocnt ∧ (timerFire s).insil = s.insil ∧ (timerFire s).buz = s.buz ∧ (timerFire s).ien = s.ien ∧
    (timerFire s).tpend = true ∧ (timerFire s).tarm = false ∧ (timerFire s).mph = s.mph ∧ (timerFire s).hit = s.hit ∧
    (timerFire s).cfg = s.cfg ∧ (timerFire s).sched = s.sched ∧ (timerFire s).draw = s.draw := by
  and_intros <;> rfl

@[simp] theorem interruptEntry_fields (s : State) :
    (interruptEntry s).rng = s.rng ∧ (interruptEntry s).psel = s.psel ∧ (interruptEntry s).pidx = s.pidx ∧
    (interruptEntry s).prep = s.prep ∧ (interruptEntry s).ptgt = s.ptgt ∧ (interruptEntry s).deadline = s.deadline ∧
    (interruptEntry s).led = s.led ∧ (interruptEntry s).msel = s.msel ∧ (interruptEntry s).midx = s.midx ∧
    (interruptEntry s).beat = s.beat ∧ (interruptEntry s).tHp = s.tHp ∧ (interruptEntry s).tAd = s.tAd ∧
    (interruptEntry s).tPs = s.tPs ∧ (interruptEntry s).playing = s.playing ∧ (interruptEntry s).ltick = s.ltick ∧
    (interruptEntry s).dcnt = s.dcnt ∧ (interruptEntry s).scnt = s.scnt ∧ (interruptEntry s).ocnt = s.ocnt ∧
    (interruptEntry s).insil = s.insil ∧ (interruptEntry s).buz = s.buz ∧ (interruptEntry s).ien = false ∧
    (interruptEntry s).tpend = false ∧ (interruptEntry s).tarm = s.tarm ∧ (interruptEntry s).mph = s.mph ∧
    (interruptEntry s).hit = s.hit ∧ (interruptEntry s).cfg = s.cfg ∧ (interruptEntry s).sched = s.sched ∧
    (interruptEntry s).draw = s.draw := by
  and_intros <;> rfl

@[simp] theorem interruptReturn_fields (s : State) :
    (interruptReturn s).rng = s.rng ∧ (interruptReturn s).psel = s.psel ∧ (interruptReturn s).pidx = s.pidx ∧
    (interruptReturn s).prep = s.prep ∧ (interruptReturn s).ptgt = s.ptgt ∧ (interruptReturn s).deadline = s.deadline ∧
    (interruptReturn s).led = s.led ∧ (interruptReturn s).msel = s.msel ∧ (interruptReturn s).midx = s.midx ∧
    (interruptReturn s).beat = s.beat ∧ (interruptReturn s).tHp = s.tHp ∧ (interruptReturn s).tAd = s.tAd ∧
    (interruptReturn s).tPs = s.tPs ∧ (interruptReturn s).playing = s.playing ∧ (interruptReturn s).ltick = s.ltick ∧
    (interruptReturn s).dcnt = s.dcnt ∧ (interruptReturn s).scnt = s.scnt ∧ (interruptReturn s).ocnt = s.ocnt ∧
    (interruptReturn s).insil = s.insil ∧ (interruptReturn s).buz = s.buz ∧ (interruptReturn s).ien = true ∧
    (interruptReturn s).tpend = s.tpend ∧ (interruptReturn s).tarm = s.tarm ∧ (interruptReturn s).mph = s.mph ∧
    (interruptReturn s).hit = s.hit ∧ (interruptReturn s).cfg = s.cfg ∧ (interruptReturn s).sched = s.sched ∧
    (interruptReturn s).draw = s.draw := by
  and_intros <;> rfl

@[simp] theorem drawNext_fields (s : State) :
    (drawNext s).rng = xorshift s.rng ∧ (drawNext s).psel = s.psel ∧ (drawNext s).pidx = s.pidx ∧
    (drawNext s).prep = s.prep ∧ (drawNext s).ptgt = s.ptgt ∧ (drawNext s).deadline = s.deadline ∧
    (drawNext s).led = s.led ∧ (drawNext s).msel = s.msel ∧ (drawNext s).midx = s.midx ∧ (drawNext s).beat = s.beat ∧
    (drawNext s).tHp = s.tHp ∧ (drawNext s).tAd = s.tAd ∧ (drawNext s).tPs = s.tPs ∧ (drawNext s).playing = s.playing ∧
    (drawNext s).ltick = s.ltick ∧ (drawNext s).dcnt = s.dcnt ∧ (drawNext s).scnt = s.scnt ∧ (drawNext s).ocnt = s.ocnt ∧
    (drawNext s).insil = s.insil ∧ (drawNext s).buz = s.buz ∧ (drawNext s).ien = s.ien ∧ (drawNext s).tpend = s.tpend ∧
    (drawNext s).tarm = s.tarm ∧ (drawNext s).mph = s.mph ∧ (drawNext s).hit = s.hit ∧ (drawNext s).cfg = s.cfg ∧
    (drawNext s).sched = s.sched ∧ (drawNext s).draw = s.draw := by
  and_intros <;> rfl

@[simp] theorem countTick_fields (s : State) :
    (countTick s).rng = s.rng ∧ (countTick s).psel = s.psel ∧ (countTick s).pidx = s.pidx ∧ (countTick s).prep = s.prep ∧
    (countTick s).ptgt = s.ptgt ∧ (countTick s).deadline = s.deadline ∧ (countTick s).led = s.led ∧
    (countTick s).msel = s.msel ∧ (countTick s).midx = s.midx ∧ (countTick s).beat = s.beat ∧ (countTick s).tHp = s.tHp ∧
    (countTick s).tAd = s.tAd ∧ (countTick s).tPs = s.tPs ∧ (countTick s).playing = s.playing ∧
    (countTick s).ltick = s.ltick + 1 ∧ (countTick s).dcnt = s.dcnt ∧ (countTick s).scnt = s.scnt ∧
    (countTick s).ocnt = s.ocnt ∧ (countTick s).insil = s.insil ∧ (countTick s).buz = s.buz ∧ (countTick s).ien = s.ien ∧
    (countTick s).tpend = s.tpend ∧ (countTick s).tarm = s.tarm ∧ (countTick s).mph = s.mph ∧ (countTick s).hit = s.hit ∧
    (countTick s).cfg = s.cfg ∧ (countTick s).sched = s.sched ∧ (countTick s).draw = s.draw := by
  and_intros <;> rfl

@[simp] theorem idleTick_fields (s : State) :
    (idleTick s).rng = s.rng ∧ (idleTick s).psel = s.psel ∧ (idleTick s).pidx = s.pidx ∧ (idleTick s).prep = s.prep ∧
    (idleTick s).ptgt = s.ptgt ∧ (idleTick s).deadline = s.deadline ∧ (idleTick s).led = s.led ∧
    (idleTick s).msel = s.msel ∧ (idleTick s).midx = s.midx ∧ (idleTick s).beat = s.beat ∧ (idleTick s).tHp = s.tHp ∧
    (idleTick s).tAd = s.tAd ∧ (idleTick s).tPs = s.tPs ∧ (idleTick s).playing = s.playing ∧ (idleTick s).ltick = s.ltick ∧
    (idleTick s).dcnt = s.dcnt ∧ (idleTick s).scnt = s.scnt ∧ (idleTick s).ocnt = s.ocnt ∧ (idleTick s).insil = s.insil ∧
    (idleTick s).buz = false ∧ (idleTick s).ien = s.ien ∧ (idleTick s).tpend = s.tpend ∧ (idleTick s).tarm = s.tarm ∧
    (idleTick s).mph = s.mph ∧ (idleTick s).hit = s.hit ∧ (idleTick s).cfg = s.cfg ∧ (idleTick s).sched = s.sched ∧
    (idleTick s).draw = s.draw := by
  and_intros <;> rfl

@[simp] theorem rearm_fields (s : State) :
    (rearm s).rng = s.rng ∧ (rearm s).psel = s.psel ∧ (rearm s).pidx = s.pidx ∧ (rearm s).prep = s.prep ∧
    (rearm s).ptgt = s.ptgt ∧ (rearm s).deadline = s.deadline ∧ (rearm s).led = s.led ∧ (rearm s).msel = s.msel ∧
    (rearm s).midx = s.midx ∧ (rearm s).beat = s.beat ∧ (rearm s).tHp = s.tHp ∧ (rearm s).tAd = s.tAd ∧
    (rearm s).tPs = s.tPs ∧ (rearm s).playing = s.playing ∧ (rearm s).ltick = s.ltick ∧ (rearm s).dcnt = s.dcnt ∧
    (rearm s).scnt = s.scnt ∧ (rearm s).ocnt = s.ocnt ∧ (rearm s).insil = s.insil ∧ (rearm s).buz = s.buz ∧
    (rearm s).ien = s.ien ∧ (rearm s).tpend = s.tpend ∧ (rearm s).tarm = true ∧ (rearm s).mph = s.mph ∧
    (rearm s).hit = s.hit ∧ (rearm s).cfg = s.cfg ∧ (rearm s).sched = s.sched ∧ (rearm s).draw = s.draw := by
  and_intros <;> rfl

@[simp] theorem subS3_fields (s : State) :
    (subS3 s).rng = s.rng ∧ (subS3 s).psel = s.psel ∧ (subS3 s).pidx = s.pidx ∧ (subS3 s).prep = s.prep ∧
    (subS3 s).ptgt = s.ptgt ∧ (subS3 s).deadline = s.deadline ∧ (subS3 s).led = s.led ∧ (subS3 s).msel = s.msel ∧
    (subS3 s).midx = s.midx ∧ (subS3 s).beat = s.beat ∧ (subS3 s).tHp = s.tHp ∧ (subS3 s).tAd = s.tAd ∧
    (subS3 s).tPs = s.tPs ∧ (subS3 s).playing = (s.playing || s.hit) ∧ (subS3 s).ltick = s.ltick ∧ (subS3 s).dcnt = s.dcnt ∧
    (subS3 s).scnt = s.scnt ∧ (subS3 s).ocnt = s.ocnt ∧ (subS3 s).insil = s.insil ∧ (subS3 s).buz = s.buz ∧
    (subS3 s).ien = s.ien ∧ (subS3 s).tpend = s.tpend ∧ (subS3 s).tarm = s.tarm ∧ (subS3 s).mph = s.mph ∧
    (subS3 s).hit = false ∧ (subS3 s).cfg = s.cfg ∧ (subS3 s).sched = s.sched ∧ (subS3 s).draw = s.draw := by
  and_intros <;> rfl

@[simp] theorem subA5_fields (s : State) :
    (subA5 s).rng = s.rng ∧ (subA5 s).psel = s.psel ∧ (subA5 s).pidx = s.pidx ∧ (subA5 s).prep = s.prep ∧
    (subA5 s).ptgt = s.ptgt ∧ (subA5 s).deadline = s.deadline ∧ (subA5 s).led = s.led ∧ (subA5 s).msel = s.msel ∧
    (subA5 s).midx = s.midx ∧ (subA5 s).beat = s.beat ∧ (subA5 s).tHp = s.tHp ∧ (subA5 s).tAd = s.tAd ∧
    (subA5 s).tPs = s.tPs ∧ (subA5 s).playing = s.playing ∧ (subA5 s).ltick = 0 ∧ (subA5 s).dcnt = s.dcnt ∧
    (subA5 s).scnt = s.scnt ∧ (subA5 s).ocnt = s.ocnt ∧ (subA5 s).insil = s.insil ∧ (subA5 s).buz = s.buz ∧
    (subA5 s).ien = s.ien ∧ (subA5 s).tpend = s.tpend ∧ (subA5 s).tarm = s.tarm ∧ (subA5 s).mph = s.mph ∧
    (subA5 s).hit = s.hit ∧ (subA5 s).cfg = s.cfg ∧ (subA5 s).sched = s.sched ∧ (subA5 s).draw = s.draw := by
  and_intros <;> rfl

@[simp] theorem pushOp_fields (code : BitVec 3) (s : State) :
    (pushOp code s).rng = s.rng ∧ (pushOp code s).psel = s.psel ∧ (pushOp code s).pidx = s.pidx ∧
    (pushOp code s).prep = s.prep ∧ (pushOp code s).ptgt = s.ptgt ∧ (pushOp code s).deadline = s.deadline ∧
    (pushOp code s).led = s.led ∧ (pushOp code s).msel = s.msel ∧ (pushOp code s).midx = s.midx ∧
    (pushOp code s).beat = s.beat ∧ (pushOp code s).tHp = s.tHp ∧ (pushOp code s).tAd = s.tAd ∧
    (pushOp code s).tPs = s.tPs ∧ (pushOp code s).playing = s.playing ∧ (pushOp code s).ltick = s.ltick ∧
    (pushOp code s).dcnt = s.dcnt ∧ (pushOp code s).scnt = s.scnt ∧ (pushOp code s).ocnt = s.ocnt ∧
    (pushOp code s).insil = s.insil ∧ (pushOp code s).buz = s.buz ∧ (pushOp code s).ien = s.ien ∧
    (pushOp code s).tpend = s.tpend ∧ (pushOp code s).tarm = s.tarm ∧ (pushOp code s).mph = s.mph ∧
    (pushOp code s).hit = s.hit ∧ (pushOp code s).cfg = s.cfg ∧ (pushOp code s).sched = .op code :: s.sched ∧
    (pushOp code s).draw = s.draw := by
  and_intros <;> rfl

@[simp] theorem stepPatternCursor_frame (len : Nat) (s : State) :
    (stepPatternCursor len s).rng = s.rng ∧ (stepPatternCursor len s).ptgt = s.ptgt ∧
    (stepPatternCursor len s).deadline = s.deadline ∧ (stepPatternCursor len s).led = s.led ∧
    (stepPatternCursor len s).msel = s.msel ∧ (stepPatternCursor len s).midx = s.midx ∧
    (stepPatternCursor len s).beat = s.beat ∧ (stepPatternCursor len s).tHp = s.tHp ∧
    (stepPatternCursor len s).tAd = s.tAd ∧ (stepPatternCursor len s).tPs = s.tPs ∧
    (stepPatternCursor len s).playing = s.playing ∧ (stepPatternCursor len s).ltick = s.ltick ∧
    (stepPatternCursor len s).dcnt = s.dcnt ∧ (stepPatternCursor len s).scnt = s.scnt ∧
    (stepPatternCursor len s).ocnt = s.ocnt ∧ (stepPatternCursor len s).insil = s.insil ∧
    (stepPatternCursor len s).buz = s.buz ∧ (stepPatternCursor len s).ien = s.ien ∧
    (stepPatternCursor len s).tpend = s.tpend ∧ (stepPatternCursor len s).tarm = s.tarm ∧
    (stepPatternCursor len s).mph = s.mph ∧ (stepPatternCursor len s).hit = s.hit ∧ (stepPatternCursor len s).cfg = s.cfg ∧
    (stepPatternCursor len s).sched = s.sched ∧ (stepPatternCursor len s).draw = s.draw := by
  unfold stepPatternCursor; split <;> (try split) <;> (and_intros <;> rfl)

@[simp] theorem stepMelodyCursor_frame (len : Nat) (s : State) :
    (stepMelodyCursor len s).rng = s.rng ∧ (stepMelodyCursor len s).psel = s.psel ∧ (stepMelodyCursor len s).pidx = s.pidx ∧
    (stepMelodyCursor len s).prep = s.prep ∧ (stepMelodyCursor len s).ptgt = s.ptgt ∧
    (stepMelodyCursor len s).deadline = s.deadline ∧ (stepMelodyCursor len s).led = s.led ∧
    (stepMelodyCursor len s).beat = s.beat ∧ (stepMelodyCursor len s).tHp = s.tHp ∧ (stepMelodyCursor len s).tAd = s.tAd ∧
    (stepMelodyCursor len s).tPs = s.tPs ∧ (stepMelodyCursor len s).playing = s.playing ∧
    (stepMelodyCursor len s).ltick = s.ltick ∧ (stepMelodyCursor len s).dcnt = s.dcnt ∧
    (stepMelodyCursor len s).scnt = s.scnt ∧ (stepMelodyCursor len s).ocnt = s.ocnt ∧
    (stepMelodyCursor len s).insil = s.insil ∧ (stepMelodyCursor len s).buz = s.buz ∧ (stepMelodyCursor len s).ien = s.ien ∧
    (stepMelodyCursor len s).tpend = s.tpend ∧ (stepMelodyCursor len s).tarm = s.tarm ∧
    (stepMelodyCursor len s).mph = s.mph ∧ (stepMelodyCursor len s).hit = s.hit ∧ (stepMelodyCursor len s).cfg = s.cfg ∧
    (stepMelodyCursor len s).sched = s.sched ∧ (stepMelodyCursor len s).draw = s.draw := by
  unfold stepMelodyCursor; split <;> (and_intros <;> rfl)

@[simp] theorem subA1_frame (s : State) :
    (subA1 s).pidx = s.pidx ∧ (subA1 s).prep = s.prep ∧ (subA1 s).deadline = s.deadline ∧ (subA1 s).led = s.led ∧
    (subA1 s).msel = s.msel ∧ (subA1 s).midx = s.midx ∧ (subA1 s).beat = s.beat ∧ (subA1 s).tHp = s.tHp ∧
    (subA1 s).tAd = s.tAd ∧ (subA1 s).tPs = s.tPs ∧ (subA1 s).playing = s.playing ∧ (subA1 s).ltick = s.ltick ∧
    (subA1 s).dcnt = s.dcnt ∧ (subA1 s).scnt = s.scnt ∧ (subA1 s).ocnt = s.ocnt ∧ (subA1 s).insil = s.insil ∧
    (subA1 s).buz = s.buz ∧ (subA1 s).ien = s.ien ∧ (subA1 s).tpend = s.tpend ∧ (subA1 s).tarm = s.tarm ∧
    (subA1 s).mph = s.mph ∧ (subA1 s).hit = s.hit ∧ (subA1 s).cfg = s.cfg ∧ (subA1 s).sched = s.sched ∧
    (subA1 s).draw = s.draw := by
  unfold subA1; split <;> (and_intros <;> rfl)

@[simp] theorem postSilenceTick_frame (s : State) :
    (postSilenceTick s).rng = s.rng ∧ (postSilenceTick s).psel = s.psel ∧ (postSilenceTick s).pidx = s.pidx ∧
    (postSilenceTick s).prep = s.prep ∧ (postSilenceTick s).ptgt = s.ptgt ∧ (postSilenceTick s).deadline = s.deadline ∧
    (postSilenceTick s).led = s.led ∧ (postSilenceTick s).msel = s.msel ∧ (postSilenceTick s).midx = s.midx ∧
    (postSilenceTick s).beat = s.beat ∧ (postSilenceTick s).tHp = s.tHp ∧ (postSilenceTick s).tAd = s.tAd ∧
    (postSilenceTick s).tPs = s.tPs ∧ (postSilenceTick s).ltick = s.ltick ∧ (postSilenceTick s).dcnt = s.dcnt ∧
    (postSilenceTick s).ocnt = s.ocnt ∧ (postSilenceTick s).ien = s.ien ∧ (postSilenceTick s).tpend = s.tpend ∧
    (postSilenceTick s).tarm = s.tarm ∧ (postSilenceTick s).mph = s.mph ∧ (postSilenceTick s).hit = s.hit ∧
    (postSilenceTick s).cfg = s.cfg ∧ (postSilenceTick s).sched = s.sched ∧ (postSilenceTick s).draw = s.draw := by
  unfold postSilenceTick; split <;> (and_intros <;> rfl)

@[simp] theorem oscillate_frame (s : State) :
    (oscillate s).rng = s.rng ∧ (oscillate s).psel = s.psel ∧ (oscillate s).pidx = s.pidx ∧ (oscillate s).prep = s.prep ∧
    (oscillate s).ptgt = s.ptgt ∧ (oscillate s).deadline = s.deadline ∧ (oscillate s).led = s.led ∧
    (oscillate s).msel = s.msel ∧ (oscillate s).midx = s.midx ∧ (oscillate s).beat = s.beat ∧ (oscillate s).tHp = s.tHp ∧
    (oscillate s).tAd = s.tAd ∧ (oscillate s).tPs = s.tPs ∧ (oscillate s).playing = s.playing ∧
    (oscillate s).ltick = s.ltick ∧ (oscillate s).dcnt = s.dcnt ∧ (oscillate s).scnt = s.scnt ∧
    (oscillate s).insil = s.insil ∧ (oscillate s).ien = s.ien ∧ (oscillate s).tpend = s.tpend ∧
    (oscillate s).tarm = s.tarm ∧ (oscillate s).mph = s.mph ∧ (oscillate s).hit = s.hit ∧ (oscillate s).cfg = s.cfg ∧
    (oscillate s).sched = s.sched ∧ (oscillate s).draw = s.draw := by
  unfold oscillate; split <;> (and_intros <;> rfl)

@[simp] theorem activeTick_frame (s : State) :
    (activeTick s).rng = s.rng ∧ (activeTick s).psel = s.psel ∧ (activeTick s).pidx = s.pidx ∧
    (activeTick s).prep = s.prep ∧ (activeTick s).ptgt = s.ptgt ∧ (activeTick s).deadline = s.deadline ∧
    (activeTick s).led = s.led ∧ (activeTick s).msel = s.msel ∧ (activeTick s).midx = s.midx ∧
    (activeTick s).beat = s.beat ∧ (activeTick s).tHp = s.tHp ∧ (activeTick s).tAd = s.tAd ∧ (activeTick s).tPs = s.tPs ∧
    (activeTick s).playing = s.playing ∧ (activeTick s).ltick = s.ltick ∧ (activeTick s).scnt = s.scnt ∧
    (activeTick s).ien = s.ien ∧ (activeTick s).tpend = s.tpend ∧ (activeTick s).tarm = s.tarm ∧
    (activeTick s).mph = s.mph ∧ (activeTick s).hit = s.hit ∧ (activeTick s).cfg = s.cfg ∧ (activeTick s).sched = s.sched ∧
    (activeTick s).draw = s.draw := by
  unfold activeTick oscillate; split <;> (try split) <;> (try split) <;> (and_intros <;> rfl)

end Sys2Proof.Machine
end

