-- ==== Sys2Proof/Laws/Ops.lean ====
section
/-! SUPPORT. What the shared operations do, said once: sequencing, table reads, the comparisons, the phase, and what each sub-step
answers. Later proofs cite these and do not unfold the operations. -/

namespace Sys2Proof.Machine

/-! ### Sequencing -/

@[simp] theorem andThen_next (s : State) (f : State → Result) : andThen (.next s) f = f s := rfl

@[simp] theorem andThen_refused (x : Refusal) (f : State → Result) : andThen (.refused x) f = .refused x := rfl

theorem andThen_eq_next_iff {r : Result} {f : State → Result} {t : State} :
    andThen r f = .next t ↔ ∃ u, r = .next u ∧ f u = .next t := by
  cases r with
  | next s => simp
  | fault x => cases x
  | refused x => simp

theorem andThen_assoc (r : Result) (f g : State → Result) :
    andThen (andThen r f) g = andThen r fun s => andThen (f s) g := by
  cases r <;> rfl

@[simp] theorem andThen_next_right (r : Result) : andThen r (fun s => .next s) = r := by
  cases r <;> rfl

/-! ### The comparisons and the phase -/

@[simp] theorem exceeds_iff (c t : Word) : exceeds c t = true ↔ t < c := by
  simp [exceeds, BitVec.ult, BitVec.lt_def]

@[simp] theorem reaches_iff (c t : Word) : reaches c t = true ↔ t ≤ c := by
  simp [reaches, BitVec.ule, BitVec.le_def]

@[simp] theorem isHit_iff (sym : BitVec 4) : isHit sym = true ↔ sym.toNat ≤ 9 := by
  simp [isHit, BitVec.ule]

theorem phaseOf_idle_iff (p i : Bool) : phaseOf p i = .idle ↔ p = false := by
  cases p <;> cases i <;> simp [phaseOf]

theorem phaseOf_postSilence_iff (p i : Bool) : phaseOf p i = .postSilence ↔ p = true ∧ i = true := by
  cases p <;> cases i <;> simp [phaseOf]

theorem phaseOf_active_iff (p i : Bool) : phaseOf p i = .active ↔ p = true ∧ i = false := by
  cases p <;> cases i <;> simp [phaseOf]

/-! ### Table reads -/

theorem memRead_pattern (m : Memory) (p i : Nat) :
    memRead m ⟨.pattern, p, i⟩ = m.pattern[p]?.bind fun words => words[i]? := rfl

theorem memRead_melody (m : Memory) (p i : Nat) :
    memRead m ⟨.melody, p, i⟩ = m.melody[p]?.bind fun record => record.notes[i]? := rfl

theorem memRead_melodyBeat (m : Memory) (p : Nat) :
    memRead m ⟨.melodyBeat, p, 0⟩ = m.melody[p]?.map Melody.beat := rfl

/-- A symbol of the note table has a value (20_memory.md R62). -/
theorem memRead_value (m : Memory) (sym : BitVec 4) (h : sym.toNat ≤ 9) :
    memRead m (valueAddr sym) = some (m.noteVal[sym.toNat]'(by omega)) := by
  simp [memRead, valueAddr, Vector.getElem?_eq_getElem (show sym.toNat < 10 by omega)]

theorem readThen_eq_next_iff {s t : State} {a : TableAddr} {f : Elem → Result} :
    readThen s a f = .next t ↔ ∃ w, memRead s.cfg.mem a = some w ∧ f w = .next t := by
  unfold readThen
  split <;> simp_all

theorem readThen_some {s : State} {a : TableAddr} {f : Elem → Result} {w : Elem} (h : memRead s.cfg.mem a = some w) :
    readThen s a f = f w := by
  simp [readThen, h]

theorem readThen_none {s : State} {a : TableAddr} {f : Elem → Result} (h : memRead s.cfg.mem a = none) :
    readThen s a f = .refused (.tableReadOutOfRange a) := by
  simp [readThen, h]

/-! ### The tick -/

theorem playbackTick_idle {s : State} (h : s.playing = false) : playbackTick s = idleTick s := by
  have : s.phase = .idle := (phaseOf_idle_iff _ _).2 h
  simp [playbackTick, this]

theorem playbackTick_active {s : State} (h : s.playing = true) (h' : s.insil = false) : playbackTick s = activeTick s := by
  have : s.phase = .active := (phaseOf_active_iff _ _).2 ⟨h, h'⟩
  simp [playbackTick, this]

theorem playbackTick_postSilence {s : State} (h : s.playing = true) (h' : s.insil = true) :
    playbackTick s = postSilenceTick s := by
  have : s.phase = .postSilence := (phaseOf_postSilence_iff _ _).2 ⟨h, h'⟩
  simp [playbackTick, this]

theorem exceeds_eq_false_iff (c t : Word) : exceeds c t = false ↔ ¬t < c := by
  rw [← exceeds_iff, Bool.not_eq_true]

/-- The ACTIVE exit (43_tick_playback.md R133). -/
theorem activeTick_exit {s : State} (h : s.tAd < s.dcnt + 1) :
    activeTick s = { s with insil := true, dcnt := 0, ocnt := 0, buz := false } :=
  if_pos ((exceeds_iff _ _).2 h)

/-- A rest's ACTIVE tick (43_tick_playback.md R134). -/
theorem activeTick_rest {s : State} (h : ¬s.tAd < s.dcnt + 1) (hr : s.tHp = 0) :
    activeTick s = { s with dcnt := s.dcnt + 1, buz := false } := by
  rw [activeTick, (exceeds_eq_false_iff _ _).2 h, if_neg Bool.false_ne_true, if_pos hr]

/-- A tone's ACTIVE tick (43_tick_playback.md R135). -/
theorem activeTick_tone {s : State} (h : ¬s.tAd < s.dcnt + 1) (hr : s.tHp ≠ 0) :
    activeTick s = oscillate { s with dcnt := s.dcnt + 1 } := by
  rw [activeTick, (exceeds_eq_false_iff _ _).2 h, if_neg Bool.false_ne_true, if_neg hr]

theorem oscillate_invert {s : State} (h : s.tHp < s.ocnt + 1) : oscillate s = { s with buz := !s.buz, ocnt := 0 } :=
  if_pos ((exceeds_iff _ _).2 h)

theorem oscillate_count {s : State} (h : ¬s.tHp < s.ocnt + 1) : oscillate s = { s with ocnt := s.ocnt + 1 } := by
  rw [oscillate, (exceeds_eq_false_iff _ _).2 h, if_neg Bool.false_ne_true]

/-- The POST_SILENCE exit (43_tick_playback.md R136). -/
theorem postSilenceTick_exit {s : State} (h : s.tPs < s.scnt + 1) :
    postSilenceTick s = { s with buz := false, playing := false, scnt := 0, insil := false } :=
  if_pos ((exceeds_iff _ _).2 h)

/-- A POST_SILENCE tick that stays (43_tick_playback.md R136). -/
theorem postSilenceTick_stay {s : State} (h : ¬s.tPs < s.scnt + 1) :
    postSilenceTick s = { s with buz := false, scnt := s.scnt + 1 } := by
  rw [postSilenceTick, (exceeds_eq_false_iff _ _).2 h, if_neg Bool.false_ne_true]

/-- What the playback step of a tick leaves alone, whatever the phase (43_tick_playback.md R143). -/
@[simp] theorem playbackTick_frame (s : State) :
    (playbackTick s).rng = s.rng ∧ (playbackTick s).psel = s.psel ∧ (playbackTick s).pidx = s.pidx ∧
    (playbackTick s).prep = s.prep ∧ (playbackTick s).ptgt = s.ptgt ∧ (playbackTick s).deadline = s.deadline ∧
    (playbackTick s).led = s.led ∧ (playbackTick s).msel = s.msel ∧ (playbackTick s).midx = s.midx ∧
    (playbackTick s).beat = s.beat ∧ (playbackTick s).tHp = s.tHp ∧ (playbackTick s).tAd = s.tAd ∧
    (playbackTick s).tPs = s.tPs ∧ (playbackTick s).ltick = s.ltick ∧ (playbackTick s).ien = s.ien ∧
    (playbackTick s).tpend = s.tpend ∧ (playbackTick s).tarm = s.tarm ∧ (playbackTick s).mph = s.mph ∧
    (playbackTick s).hit = s.hit ∧ (playbackTick s).cfg = s.cfg ∧ (playbackTick s).sched = s.sched ∧
    (playbackTick s).draw = s.draw := by
  unfold playbackTick
  split <;> simp

/-- What a whole TICK leaves alone, and the two registers it writes in every phase (43_tick_playback.md R131, R137, R143). -/
@[simp] theorem tickBody_frame (s : State) :
    (tickBody s).rng = s.rng ∧ (tickBody s).psel = s.psel ∧ (tickBody s).pidx = s.pidx ∧
    (tickBody s).prep = s.prep ∧ (tickBody s).ptgt = s.ptgt ∧ (tickBody s).deadline = s.deadline ∧
    (tickBody s).led = s.led ∧ (tickBody s).msel = s.msel ∧ (tickBody s).midx = s.midx ∧
    (tickBody s).beat = s.beat ∧ (tickBody s).tHp = s.tHp ∧ (tickBody s).tAd = s.tAd ∧
    (tickBody s).tPs = s.tPs ∧ (tickBody s).ltick = s.ltick + 1 ∧ (tickBody s).ien = s.ien ∧
    (tickBody s).tpend = s.tpend ∧ (tickBody s).tarm = true ∧ (tickBody s).mph = s.mph ∧
    (tickBody s).hit = s.hit ∧ (tickBody s).cfg = s.cfg ∧ (tickBody s).sched = s.sched ∧
    (tickBody s).draw = s.draw := by
  simp [tickBody]

theorem tickBody_idle {s : State} (h : s.playing = false) :
    tickBody s = { s with ltick := s.ltick + 1, buz := false, tarm := true } := by
  rw [tickBody, playbackTick_idle (by simpa using h)]
  rfl

theorem tickBody_postSilence {s : State} (h : s.playing = true) (h' : s.insil = true) :
    tickBody s = rearm (postSilenceTick (countTick s)) := by
  rw [tickBody, playbackTick_postSilence (by simpa using h) (by simpa using h')]

theorem tickBody_active {s : State} (h : s.playing = true) (h' : s.insil = false) :
    tickBody s = rearm (activeTick (countTick s)) := by
  rw [tickBody, playbackTick_active (by simpa using h) (by simpa using h')]

/-! ### The sub-steps -/

theorem subA1_selected {s : State} (h : s.psel ≠ selNone) : subA1 s = s := if_neg h

theorem subA2_eq_next_iff {s t : State} :
    subA2 s = .next t ↔ ∃ w, memRead s.cfg.mem (stepAddr s) = some w ∧ emitLines (stepLines w) s = t := by
  simp [subA2, readThen_eq_next_iff]

theorem subA3_eq_next_iff {s t : State} :
    subA3 s = .next t ↔ ∃ w, memRead s.cfg.mem (stepAddr s) = some w ∧ setDeadline (stepMult w) s = t := by
  simp [subA3, readThen_eq_next_iff]

theorem subA4_eq_next_iff {s t : State} :
    subA4 s = .next t ↔ ∃ len, patternLength s.cfg.mem s.psel = some len ∧ stepPatternCursor len s = t := by
  unfold subA4
  split <;> simp_all

/-- The pattern cursor's move, register by register (41_light_sequencer.md R114). -/
theorem stepPatternCursor_eq (len : Nat) (s : State) : stepPatternCursor len s = { s with
    pidx := if (s.pidx + 1).toNat = len then 0 else s.pidx + 1
    prep := if (s.pidx + 1).toNat = len then (if s.prep + 1 = s.ptgt then 0 else s.prep + 1) else s.prep
    psel := if (s.pidx + 1).toNat = len ∧ s.prep + 1 = s.ptgt then selNone else s.psel } := by
  by_cases h : (s.pidx + 1).toNat = len <;> by_cases h' : s.prep + 1 = s.ptgt <;>
    simp only [stepPatternCursor, h, h', if_true, if_false, and_true, and_false, and_self]

/-- The melody cursor's move, register by register (42_tone_scheduler.md R126). -/
theorem stepMelodyCursor_eq (len : Nat) (s : State) : stepMelodyCursor len s = { s with
    midx := if (s.midx + 1).toNat = len then 0 else s.midx + 1
    msel := if (s.midx + 1).toNat = len then selNone else s.msel } := by
  by_cases h : (s.midx + 1).toNat = len <;> simp only [stepMelodyCursor, h, if_true, if_false]

theorem subS1_selected {s : State} (h : s.msel ≠ selNone) : subS1 s = .next s := if_neg h

theorem subS4_eq_next_iff {s t : State} :
    subS4 s = .next t ↔ ∃ len, melodyLength s.cfg.mem s.msel = some len ∧ stepMelodyCursor len s = t := by
  unfold subS4
  split <;> simp_all

/-- On a hit S2 writes the task; it never stops (42_tone_scheduler.md R122). -/
theorem noteTask_hit (s : State) (sym : BitVec 4) (du : BitVec 12) (h : sym.toNat ≤ 9) :
    noteTask sym du s = .next (writeTask (s.cfg.mem.noteVal[sym.toNat]'(by omega)) du s) := by
  simp [noteTask, h, readThen_some (memRead_value s.cfg.mem sym h)]

/-- On a miss S2 writes nothing (42_tone_scheduler.md R124). -/
theorem noteTask_miss (s : State) (sym : BitVec 4) (du : BitVec 12) (h : ¬sym.toNat ≤ 9) :
    noteTask sym du s = .next s := by
  simp [noteTask, h]

theorem whenIdle_idle {s : State} (h : s.playing = false) (r : Result) : whenIdle s r = r := by
  simp [whenIdle, h]

theorem whenIdle_playing {s : State} (h : s.playing = true) (r : Result) :
    whenIdle s r = .refused .dispatchWhilePlaying := by
  simp [whenIdle, h]

theorem whenIdle_eq_next_iff {s t : State} {r : Result} : whenIdle s r = .next t ↔ s.playing = false ∧ r = .next t := by
  unfold whenIdle
  split <;> simp_all

/-! ### The configuration -/

theorem boundedTable_length (first : Elem) (rest : List Elem) :
    1 ≤ (Config.boundedTable first rest).length ∧ (Config.boundedTable first rest).length ≤ 255 := by
  simp [Config.boundedTable]

/-- The device's parameters are within the limits of 00_scope.md R10, whatever their values are. -/
theorem params_wf : Config.params.wf = true := by
  have hs : Config.params.seed ≠ 0 := by
    intro h
    have := congrArg BitVec.toNat h
    simp [Config.params] at this
    omega
  have hm : Config.params.mem.wf = true := by
    simp [Memory.wf, Config.params, Config.memory, lengthOk, Config.boundedTable]
  simp only [Params.wf, hm, Bool.and_true, decide_eq_true_eq]
  exact hs

end Sys2Proof.Machine
end

