-- ==== Sys2Proof/Laws/Words.lean ====
section
/-! SUPPORT. What each table word and each sequencer operation answers, as one equation or one inversion lemma each. -/

namespace Sys2Proof.Machine

/-- A property of a 4-bit symbol code holds when it holds for the sixteen codes. -/
theorem forall_symbol {p : BitVec 4 → Prop}
    (h0 : p 0#4) (h1 : p 1#4) (h2 : p 2#4) (h3 : p 3#4) (h4 : p 4#4) (h5 : p 5#4) (h6 : p 6#4) (h7 : p 7#4) (h8 : p 8#4)
    (h9 : p 9#4) (h10 : p 10#4) (h11 : p 11#4) (h12 : p 12#4) (h13 : p 13#4) (h14 : p 14#4) (h15 : p 15#4) (sym : BitVec 4) :
    p sym := by
  have hs : sym = BitVec.ofNat 4 sym.toNat := by simp
  have hlt := sym.isLt
  rw [hs]
  generalize sym.toNat = n at hlt
  interval_cases n <;> assumption

/-- The meaning chosen by a symbol code is the one exec gives the row of that code. -/
theorem exec_noteOf (sym : BitVec 4) (du : BitVec 12) (s : State) : exec (noteOf sym du) s = execNoteOf sym du s := by
  revert sym
  apply forall_symbol <;> rfl

/-- A NOTE entry is a table hit or a lookup miss (42_tone_scheduler.md R122, R124). -/
theorem execNoteOf_eq (sym : BitVec 4) (du : BitVec 12) (s : State) :
    execNoteOf sym du s = if sym.toNat ≤ 9 then noteHit sym du s else noteMiss s := by
  revert sym
  apply forall_symbol <;> rfl

theorem exec_decodeNote (e : Elem) (s : State) : exec (decodeNote e) s = execNoteOf (noteSym e) (noteDu e) s :=
  exec_noteOf _ _ _

/-- A STEP word completes exactly where a pattern is selected (41_light_sequencer.md R113). -/
theorem execStep_eq_next_iff {lines : BitVec 9} {mult : BitVec 7} {s t : State} :
    execStep lines mult s = .next t ↔ ∃ len, patternLength s.cfg.mem s.psel = some len ∧
      subA5 (stepPatternCursor len (setDeadline mult (emitLines lines s))) = t := by
  simp [execStep, andThen_eq_next_iff, subA4_eq_next_iff]

/-- A table hit completes exactly where no task is live and a melody is selected (42_tone_scheduler.md R122). -/
theorem noteHit_eq_next_iff {sym : BitVec 4} {du : BitVec 12} {s t : State} (h : sym.toNat ≤ 9) :
    noteHit sym du s = .next t ↔ s.playing = false ∧ ∃ len, melodyLength s.cfg.mem s.msel = some len ∧
      stepMelodyCursor len (goLive true (writeTask (s.cfg.mem.noteVal[sym.toNat]'(by omega)) du s)) = t := by
  simp [noteHit, whenIdle_eq_next_iff, noteTask_hit s sym du h, subS4_eq_next_iff]

/-- A lookup miss completes exactly where no task is live and a melody is selected (42_tone_scheduler.md R124). -/
theorem noteMiss_eq_next_iff {s t : State} :
    noteMiss s = .next t ↔ s.playing = false ∧ ∃ len, melodyLength s.cfg.mem s.msel = some len ∧
      stepMelodyCursor len s = t := by
  simp [noteMiss, whenIdle_eq_next_iff, subS4_eq_next_iff]

/-- What a completed ADVANCE did (41_light_sequencer.md R110). -/
theorem execAdvance_eq_next_iff {s t : State} :
    execAdvance s = .next t ↔ ∃ w, memRead s.cfg.mem (stepAddr (subA1 s)) = some w ∧
      execStep (stepLines w) (stepMult w) (subA1 s) = .next t := by
  simp [execAdvance, runStepUnderCursor, readThen_eq_next_iff]

/-- What a completed DISPATCH did (42_tone_scheduler.md R120). -/
theorem execDispatch_eq_next_iff {s t : State} :
    execDispatch s = .next t ↔ s.playing = false ∧ ∃ u, subS1 s = .next u ∧ ∃ e, memRead u.cfg.mem (noteAddr u) = some e ∧
      execNoteOf (noteSym e) (noteDu e) u = .next t := by
  simp [execDispatch, runNoteUnderCursor, whenIdle_eq_next_iff, andThen_eq_next_iff, readThen_eq_next_iff]

/-- What a completed lazy pick of a melody did (42_tone_scheduler.md R121). -/
theorem subS1_eq_next_iff {s t : State} :
    subS1 s = .next t ↔ (s.msel ≠ selNone ∧ t = s) ∨
      (s.msel = selNone ∧ ∃ b, memRead s.cfg.mem ⟨.melodyBeat, (pickOf (xorshift s.rng) 2).toNat, 0⟩ = some b ∧
        t = { s with rng := xorshift s.rng, msel := pickOf (xorshift s.rng) 2, beat := b }) := by
  by_cases h : s.msel = selNone
  · simp only [subS1, h, if_true, readThen_eq_next_iff, beatAddr, drawNext, Host.Outcome.next.injEq, ne_eq, not_true_eq_false,
      false_and, true_and, false_or]
    exact exists_congr fun b => and_congr_right fun _ => eq_comm
  · simp [subS1_selected h, h, eq_comm]

/-- What a completed POLL did (44_main_loop.md R150). -/
theorem execPoll_eq_next_iff {s t : State} :
    execPoll s = .next t ↔ ∃ a d, (if s.deadline ≤ s.ltick then execAdvance s = .next a else s = a) ∧
      (if a.playing then a = d else execDispatch a = .next d) ∧ toPhase .p1 d = t := by
  have hl : ∀ a, pollLight s = .next a ↔ if s.deadline ≤ s.ltick then execAdvance s = .next a else s = a := by
    intro a
    simp only [pollLight, lightDue, reaches_iff]
    split <;> simp
  have hb : ∀ a d, pollBuzzer a = .next d ↔ if a.playing then a = d else execDispatch a = .next d := by
    intro a d
    simp only [pollBuzzer]
    split <;> simp
  simp only [execPoll, andThen_eq_next_iff, hl, hb, Host.Outcome.next.injEq]
  grind

end Sys2Proof.Machine
end

