-- ==== Sys2Proof/Laws/Fields.lean ====
section
/-! SUPPORT. The fields of the words: reading a field of a word put together from its fields gives that field back
(30_encoding.md R81, R82, 20_memory.md R64); the sixteen NOTE rows as one; and the bounds of the tables. -/

namespace Sys2Proof.Machine

/-! ### Fields -/

@[simp] theorem stepLines_append (mult : BitVec 7) (lines : BitVec 9) : stepLines (mult ++ lines) = lines := by
  apply BitVec.eq_of_getLsbD_eq
  intro i hi
  simp only [stepLines, BitVec.getLsbD_extractLsb', BitVec.getLsbD_append]
  simp [hi]

@[simp] theorem stepMult_append (mult : BitVec 7) (lines : BitVec 9) : stepMult (mult ++ lines) = mult := by
  apply BitVec.eq_of_getLsbD_eq
  intro i hi
  simp only [stepMult, BitVec.getLsbD_extractLsb', BitVec.getLsbD_append]
  simp [hi]

@[simp] theorem noteSym_append (du : BitVec 12) (sym : BitVec 4) : noteSym (du ++ sym) = sym := by
  apply BitVec.eq_of_getLsbD_eq
  intro i hi
  simp only [noteSym, BitVec.getLsbD_extractLsb', BitVec.getLsbD_append]
  simp [hi]

@[simp] theorem noteDu_append (du : BitVec 12) (sym : BitVec 4) : noteDu (du ++ sym) = du := by
  apply BitVec.eq_of_getLsbD_eq
  intro i hi
  simp only [noteDu, BitVec.getLsbD_extractLsb', BitVec.getLsbD_append]
  simp [hi]

/-- The low four bits of an entry, as the mask of the NOTE16 rows reads them (30_encoding.md R95). -/
theorem noteMask_append (du : BitVec 12) (sym : BitVec 4) : ((du ++ sym : Elem) &&& (0x000F : Elem)) = sym.setWidth 16 := by
  have mask : ∀ i < 16, (0x000F : Elem).getLsbD i = decide (i < 4) := by decide
  apply BitVec.eq_of_getLsbD_eq
  intro i hi
  rw [BitVec.getLsbD_and, mask i (by omega), BitVec.getLsbD_append, BitVec.getLsbD_setWidth,
    decide_eq_true (by omega : i < 16)]
  by_cases h : i < 4
  · simp [h]
  · simp [h]
    exact BitVec.getLsbD_of_ge sym i (by omega)

/-- The two bytes of a word, put together again. -/
@[simp] theorem elemBytes_join (w : Elem) : (w.extractLsb' 8 8 ++ w.extractLsb' 0 8 : Elem) = w := by
  apply BitVec.eq_of_getLsbD_eq
  intro i hi
  simp only [BitVec.getLsbD_append, BitVec.getLsbD_extractLsb']
  by_cases h : i < 8
  · simp [h]
  · simp only [h, decide_false, if_false]
    rw [show 8 + (i - 8) = i by omega, decide_eq_true (show i - 8 < 8 by omega), Bool.true_and]

/-- The multiplier never wraps a deadline (30_encoding.md R86). -/
theorem deadlineOf_toNat (mult : BitVec 7) : (deadlineOf mult).toNat = mult.toNat * 2000 := by
  have := mult.isLt
  simp [deadlineOf, BitVec.toNat_mul]
  omega

/-! ### The sixteen NOTE rows -/

theorem encodeWord_noteOf (sym : BitVec 4) (du : BitVec 12) : encodeWord (noteOf sym du) = du ++ sym := by
  revert sym
  apply forall_symbol <;> rfl

theorem format_noteOf (sym : BitVec 4) (du : BitVec 12) : (noteOf sym du).format = .note16 := by
  revert sym
  apply forall_symbol <;> rfl

/-- A property of every instruction: the six operations, the STEP words, and the NOTE rows all at once. -/
theorem forall_instr {p : Instr → Prop} (hreset : p .reset) (htick : p .tick) (hpoll : p .poll) (hadvance : p .advance)
    (hdispatch : p .dispatch) (hnext : p .next) (hstep : ∀ lines mult, p (.step lines mult))
    (hnote : ∀ sym du, p (noteOf sym du)) (i : Instr) : p i := by
  cases i with
  | reset => exact hreset
  | tick => exact htick
  | poll => exact hpoll
  | advance => exact hadvance
  | dispatch => exact hdispatch
  | next => exact hnext
  | step lines mult => exact hstep lines mult
  | noteRest du => exact hnote 0 du
  | noteS1 du => exact hnote 1 du
  | noteS2 du => exact hnote 2 du
  | noteS3 du => exact hnote 3 du
  | noteS4 du => exact hnote 4 du
  | noteS5 du => exact hnote 5 du
  | noteS6 du => exact hnote 6 du
  | noteS7 du => exact hnote 7 du
  | noteS8 du => exact hnote 8 du
  | noteS9 du => exact hnote 9 du
  | noteX10 du => exact hnote 10 du
  | noteX11 du => exact hnote 11 du
  | noteX12 du => exact hnote 12 du
  | noteX13 du => exact hnote 13 du
  | noteX14 du => exact hnote 14 du
  | noteX15 du => exact hnote 15 du

/-! ### The tables -/

theorem selNone_or_pattern (sel : Sel) : sel = selNone ∨ sel.toNat < 3 := by
  revert sel
  decide

theorem selNone_or_melody (sel : Sel) : sel = selNone ∨ sel = 2 ∨ sel.toNat < 2 := by
  revert sel
  decide

theorem patternLength_selected (m : Memory) (sel : Sel) (h : sel.toNat < 3) :
    patternLength m sel = some (m.pattern[sel.toNat]).length := by
  simp [patternLength, h]

theorem melodyLength_selected (m : Memory) (sel : Sel) (h : sel.toNat < 2) :
    melodyLength m sel = some (m.melody[sel.toNat]).notes.length := by
  simp [melodyLength, h]

/-- Every pattern of a well-formed memory has 1 to 255 words (00_scope.md R10). -/
theorem pattern_length_bounds {m : Memory} (hw : m.wf = true) (p : Nat) (h : p < 3) :
    1 ≤ (m.pattern[p]).length ∧ (m.pattern[p]).length ≤ 255 := by
  simp only [Memory.wf, lengthOk, Bool.and_eq_true, decide_eq_true_eq] at hw
  have : p = 0 ∨ p = 1 ∨ p = 2 := by omega
  rcases this with rfl | rfl | rfl <;> omega

/-- Every melody of a well-formed memory has 1 to 255 entries (00_scope.md R10). -/
theorem melody_length_bounds {m : Memory} (hw : m.wf = true) (p : Nat) (h : p < 2) :
    1 ≤ (m.melody[p]).notes.length ∧ (m.melody[p]).notes.length ≤ 255 := by
  simp only [Memory.wf, lengthOk, Bool.and_eq_true, decide_eq_true_eq] at hw
  have : p = 0 ∨ p = 1 := by omega
  rcases this with rfl | rfl <;> omega

theorem params_wf_iff (c : Params) : c.wf = true ↔ c.seed ≠ 0 ∧ c.mem.wf = true := by
  simp [Params.wf]

/-- A pick is one of the tables it picks from (40_prng.md R104). -/
theorem pickOf_lt (r : Word) (n : Nat) (h0 : 0 < n) (h : n ≤ 3) : (pickOf r n).toNat < n := by
  have : r.toNat % n < n := Nat.mod_lt _ h0
  simp [pickOf]
  omega

end Sys2Proof.Machine
end

