-- ==== Sys2Proof/Laws/Memory.lean ====
section
/-! SUPPORT. The form of the table memory (WellFormed.lean): the device's memory has it at reset, and what places a word (log entry 14)
keeps it. No sub-step of the machine writes a table (20_memory.md R60): the field lemmas of Laws/State.lean say so one by one. -/

namespace Sys2Proof.Machine

/-- The memory of the machine right after reset is within the limits of 00_scope.md R10. -/
theorem reset_memory_wf : State.reset.cfg.mem.wf = true := ((params_wf_iff _).1 params_wf).2

/-- One word is a pattern of a legal length. -/
theorem placeStepWord_wf (w : Elem) (s : State) (h : s.cfg.mem.wf = true) : (placeStepWord w s).cfg.mem.wf = true := by
  simp only [Memory.wf, lengthOk, Bool.and_eq_true, decide_eq_true_eq, placeStepWord] at h ⊢
  simp [h]

/-- One entry is a melody of a legal length. -/
theorem placeNoteWord_wf (e : Elem) (s : State) (h : s.cfg.mem.wf = true) : (placeNoteWord e s).cfg.mem.wf = true := by
  simp only [Memory.wf, lengthOk, Bool.and_eq_true, decide_eq_true_eq, placeNoteWord] at h ⊢
  simp [h]

theorem pushOp_wf (code : BitVec 3) (s : State) (h : s.cfg.mem.wf = true) : (pushOp code s).cfg.mem.wf = true := h

/-- A placed instruction leaves the memory in form. -/
theorem withFetchWord_wf (s : State) (nbits w : Nat) (h : s.cfg.mem.wf = true) :
    (s.withFetchWord nbits w).cfg.mem.wf = true := by
  unfold State.withFetchWord
  split
  · unfold placeOp
    split
    · exact pushOp_wf _ _ (placeStepWord_wf _ _ h)
    · split
      · exact pushOp_wf _ _ (placeNoteWord_wf _ _ h)
      · split
        · exact pushOp_wf _ _ (placeStepWord_wf _ _ (placeNoteWord_wf _ _ h))
        · exact pushOp_wf _ _ h
  · exact placeNoteWord_wf _ _ h

end Sys2Proof.Machine
end

