-- ==== Sys2Proof/Laws/PerInstr.lean ====
section
/-! SUPPORT. The per-instruction family RowOf: the opcode table has a row of the instruction's mnemonic, of its format, that its word
selects (30_encoding.md R95). -/

namespace Sys2Proof.Laws

/-- A NOTE row selects every entry with its symbol code, whatever the duration-unit. -/
theorem noteRow_selected (r : TableRow) (sym : BitVec 4) (du : BitVec 12) (hf : r.format = .note16) (hm : r.mask = 0x000F)
    (hv : r.matchBits = sym.setWidth 16) : r.selectedBy .note16 (du ++ sym) = true := by
  simp only [TableRow.selectedBy, hf, hm, hv, Machine.noteMask_append, decide_true, Bool.and_self]

end Sys2Proof.Laws

namespace Sys2Proof.Laws.RowOf

/-- The instruction has its row. -/
def Statement (i : Instr) : Prop :=
  ∃ r ∈ opcodeTable, r.mnemonic = mnemonicOf i ∧ r.selectedBy i.format (encodeWord i) = true

theorem reset : Statement .reset := by
  unfold Statement
  decide

theorem tick : Statement .tick := by
  unfold Statement
  decide

theorem poll : Statement .poll := by
  unfold Statement
  decide

theorem advance : Statement .advance := by
  unfold Statement
  decide

theorem dispatch : Statement .dispatch := by
  unfold Statement
  decide

theorem next : Statement .next := by
  unfold Statement
  decide

theorem step (lines : BitVec 9) (mult : BitVec 7) : Statement (.step lines mult) := by
  refine ⟨⟨"STEP", .step16, 16, 0x0000, 0x0000⟩, by decide, rfl, ?_⟩
  simp [TableRow.selectedBy, Instr.format]

theorem noteRest (du : BitVec 12) : Statement (.noteRest du) :=
  ⟨⟨"NOTE.REST", .note16, 16, 0x0000, 0x000F⟩, by decide, rfl, noteRow_selected _ 0 du rfl rfl rfl⟩

theorem noteS1 (du : BitVec 12) : Statement (.noteS1 du) :=
  ⟨⟨"NOTE.S1", .note16, 16, 0x0001, 0x000F⟩, by decide, rfl, noteRow_selected _ 1 du rfl rfl rfl⟩

theorem noteS2 (du : BitVec 12) : Statement (.noteS2 du) :=
  ⟨⟨"NOTE.S2", .note16, 16, 0x0002, 0x000F⟩, by decide, rfl, noteRow_selected _ 2 du rfl rfl rfl⟩

theorem noteS3 (du : BitVec 12) : Statement (.noteS3 du) :=
  ⟨⟨"NOTE.S3", .note16, 16, 0x0003, 0x000F⟩, by decide, rfl, noteRow_selected _ 3 du rfl rfl rfl⟩

theorem noteS4 (du : BitVec 12) : Statement (.noteS4 du) :=
  ⟨⟨"NOTE.S4", .note16, 16, 0x0004, 0x000F⟩, by decide, rfl, noteRow_selected _ 4 du rfl rfl rfl⟩

theorem noteS5 (du : BitVec 12) : Statement (.noteS5 du) :=
  ⟨⟨"NOTE.S5", .note16, 16, 0x0005, 0x000F⟩, by decide, rfl, noteRow_selected _ 5 du rfl rfl rfl⟩

theorem noteS6 (du : BitVec 12) : Statement (.noteS6 du) :=
  ⟨⟨"NOTE.S6", .note16, 16, 0x0006, 0x000F⟩, by decide, rfl, noteRow_selected _ 6 du rfl rfl rfl⟩

theorem noteS7 (du : BitVec 12) : Statement (.noteS7 du) :=
  ⟨⟨"NOTE.S7", .note16, 16, 0x0007, 0x000F⟩, by decide, rfl, noteRow_selected _ 7 du rfl rfl rfl⟩

theorem noteS8 (du : BitVec 12) : Statement (.noteS8 du) :=
  ⟨⟨"NOTE.S8", .note16, 16, 0x0008, 0x000F⟩, by decide, rfl, noteRow_selected _ 8 du rfl rfl rfl⟩

theorem noteS9 (du : BitVec 12) : Statement (.noteS9 du) :=
  ⟨⟨"NOTE.S9", .note16, 16, 0x0009, 0x000F⟩, by decide, rfl, noteRow_selected _ 9 du rfl rfl rfl⟩

theorem noteX10 (du : BitVec 12) : Statement (.noteX10 du) :=
  ⟨⟨"NOTE.X10", .note16, 16, 0x000A, 0x000F⟩, by decide, rfl, noteRow_selected _ 10 du rfl rfl rfl⟩

theorem noteX11 (du : BitVec 12) : Statement (.noteX11 du) :=
  ⟨⟨"NOTE.X11", .note16, 16, 0x000B, 0x000F⟩, by decide, rfl, noteRow_selected _ 11 du rfl rfl rfl⟩

theorem noteX12 (du : BitVec 12) : Statement (.noteX12 du) :=
  ⟨⟨"NOTE.X12", .note16, 16, 0x000C, 0x000F⟩, by decide, rfl, noteRow_selected _ 12 du rfl rfl rfl⟩

theorem noteX13 (du : BitVec 12) : Statement (.noteX13 du) :=
  ⟨⟨"NOTE.X13", .note16, 16, 0x000D, 0x000F⟩, by decide, rfl, noteRow_selected _ 13 du rfl rfl rfl⟩

theorem noteX14 (du : BitVec 12) : Statement (.noteX14 du) :=
  ⟨⟨"NOTE.X14", .note16, 16, 0x000E, 0x000F⟩, by decide, rfl, noteRow_selected _ 14 du rfl rfl rfl⟩

theorem noteX15 (du : BitVec 12) : Statement (.noteX15 du) :=
  ⟨⟨"NOTE.X15", .note16, 16, 0x000F, 0x000F⟩, by decide, rfl, noteRow_selected _ 15 du rfl rfl rfl⟩

end Sys2Proof.Laws.RowOf
end

