-- ==== Sys2Proof/Laws/Step.lean ====
section
/-! SUPPORT. What one step can do, said once: the turn or the operation it is, and what each sub-step of the main context leaves. -/

namespace Sys2Proof.Machine

/-- Taking an event or a free choice changes no register and no table. -/
@[simp] theorem taken_fields (s : State) :
    (taken s).rng = s.rng ∧ (taken s).psel = s.psel ∧ (taken s).pidx = s.pidx ∧ (taken s).prep = s.prep ∧
    (taken s).ptgt = s.ptgt ∧ (taken s).deadline = s.deadline ∧ (taken s).led = s.led ∧ (taken s).msel = s.msel ∧
    (taken s).midx = s.midx ∧ (taken s).beat = s.beat ∧ (taken s).tHp = s.tHp ∧ (taken s).tAd = s.tAd ∧
    (taken s).tPs = s.tPs ∧ (taken s).playing = s.playing ∧ (taken s).ltick = s.ltick ∧ (taken s).dcnt = s.dcnt ∧
    (taken s).scnt = s.scnt ∧ (taken s).ocnt = s.ocnt ∧ (taken s).insil = s.insil ∧ (taken s).buz = s.buz ∧
    (taken s).ien = s.ien ∧ (taken s).tpend = s.tpend ∧ (taken s).tarm = s.tarm ∧ (taken s).mph = s.mph ∧
    (taken s).hit = s.hit ∧ (taken s).cfg = s.cfg := by
  unfold taken
  split <;> and_intros <;> rfl

theorem taken_cons {s : State} {e : Event} {rest : List Event} (h : s.sched = e :: rest) : taken s = { s with sched := rest } := by
  simp [taken, h]

theorem taken_nil {s : State} (h : s.sched = []) : taken s = { s with draw := s.draw + 1 } := by
  simp [taken, h]

/-- A step is an operation of a trace, or a turn of whoever moves; either acts on the state with its event or free choice taken. -/
theorem step_cases {s t : State} (h : step s = .next t) :
    (∃ code rest i, s.sched = .op code :: rest ∧ decodeOp code = some i ∧ exec i (taken s) = .next t) ∨
    (∃ c, mover s = some c ∧ takeTurn c (taken s) = .next t) := by
  unfold step at h
  split at h
  · rename_i code rest hs
    unfold runOp at h
    split at h
    · rename_i i hi
      exact .inl ⟨code, rest, i, hs, hi, by rwa [taken_cons hs]⟩
    · cases h
  · rename_i c rest hs
    exact .inr ⟨c, by simp [mover, hs], by rwa [taken_cons hs]⟩
  · rename_i hs
    exact .inr ⟨Config.freeChoice s.draw, by simp [mover, hs], by rwa [taken_nil hs]⟩

/-- What a turn of the tick source does (60_exceptions.md R162). -/
theorem fireTurn_eq_next_iff {s t : State} :
    fireTurn s = .next t ↔ (s.tarm = true ∧ timerFire s = t) ∨ (s.tarm = false ∧ s = t) := by
  unfold fireTurn
  split <;> simp_all

/-- What a turn of the interrupt context does (60_exceptions.md R163 to R166). -/
theorem tickTurn_eq_next_iff {s t : State} :
    tickTurn s = .next t ↔ (s.tpend = true ∧ s.ien = true ∧ interruptReturn (tickBody (interruptEntry s)) = t) ∨
      ((s.tpend = false ∨ s.ien = false) ∧ s = t) := by
  unfold tickTurn
  cases s.tpend <;> cases s.ien <;> simp [interruptStep, execTick]

/-- What a completed S2 did (42_tone_scheduler.md R120). -/
theorem subS2_eq_next_iff {s t : State} :
    subS2 s = .next t ↔ ∃ e, memRead s.cfg.mem (noteAddr s) = some e ∧
      ((∃ h : (noteSym e).toNat ≤ 9,
          t = { writeTask (s.cfg.mem.noteVal[(noteSym e).toNat]'(by omega)) (noteDu e) s with hit := true }) ∨
        (¬(noteSym e).toNat ≤ 9 ∧ t = { s with hit := false })) := by
  simp only [subS2, readThen_eq_next_iff]
  refine exists_congr fun e => and_congr_right fun _ => ?_
  by_cases h : (noteSym e).toNat ≤ 9
  · have : isHit (noteSym e) = true := (isHit_iff _).2 h
    simp [noteTask_hit s _ _ h, h, this, eq_comm]
  · have : isHit (noteSym e) = false := by
      cases hh : isHit (noteSym e)
      · rfl
      · exact absurd ((isHit_iff _).1 hh) h
    simp [noteTask_miss s _ _ h, h, this, eq_comm]

end Sys2Proof.Machine
end

