-- ==== Sys2Proof/Tests/Slice0.lean ====
section
/-! SUPPORT. The model's own tests. Expected results come from the spec: the vectors of 95_test_vectors.md (V<n>), its configuration
EX1, and words written out from 30_encoding.md. Then one witness for each obligation that has hypotheses. -/

open Sys2Proof Sys2Proof.Machine Sys2Proof.Claims

namespace Sys2Proof.Tests

/-! ### Helpers -/

/-- What a result's next state shows; none where it stops. -/
def after {α : Type} (r : Result) (f : State → α) : Option α :=
  match r with
  | .next s => some (f s)
  | .fault _ => none
  | .refused _ => none

/-- Why a result is refused. -/
def refusal (r : Result) : Option Refusal :=
  match r with
  | .next _ => none
  | .fault _ => none
  | .refused x => some x

/-- The configuration EX1 (95_test_vectors.md section 2). -/
def ex1 : Params where
  seed := 0x00000001
  mem :=
    { pattern := #v[[0x0201, 0x0002], [0x0355, 0x04AA, 0x03FF],
        [0x0201, 0x0202, 0x0204, 0x0208, 0x0210, 0x0220, 0x0240, 0x0280]]
      melody := #v[⟨1, [0x0019, 0x0010, 0x0027]⟩, ⟨2, [0x0011, 0x001C, 0x0015]⟩]
      noteVal := #v[0, 500, 450, 400, 350, 300, 250, 200, 150, 100] }
  tickReload := 0
  startupTicks := 40000

/-- The state right after a reset of EX1. -/
def base : State := State.resetOf ex1

/-- A note being played, with thresholds `T_AD`, `T_HP`, `T_PS` (95_test_vectors.md section 3.2). -/
def live (ad hp ps : Word) : State := { base with tAd := ad, tHp := hp, tPs := ps, playing := true }

/-- A pattern cursor. -/
def atStep (sel : Sel) (idx : Index) : State := { base with psel := sel, pidx := idx, ptgt := 1 }

/-- A melody cursor with its beat. -/
def atNote (sel : Sel) (idx : Index) (beat : Elem) : State := { base with msel := sel, midx := idx, beat := beat }

/-- A task's thresholds. -/
def task (s : State) : Word × Word × Word := (s.tHp, s.tAd, s.tPs)

/-! ### Well-formedness: one ill-formed configuration for each check (00_scope.md R10) -/

theorem test_wf_accepts_ex1 : ex1.wf = true := by decide

theorem test_wf_refuses_seed_zero : { ex1 with seed := 0 }.wf = false := by decide

theorem test_wf_refuses_empty_pattern0 : ({ ex1.mem with pattern := ex1.mem.pattern.set 0 [] } : Memory).wf = false := by decide

theorem test_wf_refuses_long_pattern0 (words : List Elem) (h : words.length = 256) :
    ({ ex1.mem with pattern := ex1.mem.pattern.set 0 words } : Memory).wf = false := by
  simp [Memory.wf, lengthOk, h]

theorem test_wf_refuses_empty_pattern1 : ({ ex1.mem with pattern := ex1.mem.pattern.set 1 [] } : Memory).wf = false := by decide

theorem test_wf_refuses_pattern2_of_seven :
    ({ ex1.mem with pattern := ex1.mem.pattern.set 2 (List.replicate 7 0) } : Memory).wf = false := by decide

theorem test_wf_refuses_empty_melody0 :
    ({ ex1.mem with melody := ex1.mem.melody.set 0 ⟨1, []⟩ } : Memory).wf = false := by decide

theorem test_wf_refuses_long_melody1 (notes : List Elem) (h : notes.length = 256) :
    ({ ex1.mem with melody := ex1.mem.melody.set 1 ⟨1, notes⟩ } : Memory).wf = false := by
  simp [Memory.wf, lengthOk, h]

theorem test_wf_refuses_sounding_rest :
    ({ ex1.mem with noteVal := ex1.mem.noteVal.set 0 1 } : Memory).wf = false := by decide

/-! ### Decoding: one word for each constructor, written out from 30_encoding.md R81, R82, R84, R85 -/

theorem test_decode_reset : decodeOp 0b000 = some .reset := by decide

theorem test_decode_tick : decodeOp 0b001 = some .tick := by decide

theorem test_decode_poll : decodeOp 0b010 = some .poll := by decide

theorem test_decode_advance : decodeOp 0b011 = some .advance := by decide

theorem test_decode_dispatch : decodeOp 0b100 = some .dispatch := by decide

theorem test_decode_next : decodeOp 0b101 = some .next := by decide

theorem test_decode_refuses_reserved_ops : decodeOp 0b110 = none ∧ decodeOp 0b111 = none := by decide

theorem test_decode_step : decodeStep 0b0000011_000000101 = .step 0b000000101 3 := by decide

theorem test_decode_step_extremes : decodeStep 0b1000000_000000001 = .step 1 64 ∧ decodeStep 0b0000001_100000000 = .step 256 1 := by
  decide

theorem test_decode_noteRest : decodeNote 0b000000000011_0000 = .noteRest 3 := by decide

theorem test_decode_noteS1 : decodeNote 0b000000000001_0001 = .noteS1 1 := by decide

theorem test_decode_noteS2 : decodeNote 0b100000000000_0010 = .noteS2 2048 := by decide

theorem test_decode_noteS3 : decodeNote 0b000000000001_0011 = .noteS3 1 := by decide

theorem test_decode_noteS4 : decodeNote 0b000000000001_0100 = .noteS4 1 := by decide

theorem test_decode_noteS5 : decodeNote 0b000000000001_0101 = .noteS5 1 := by decide

theorem test_decode_noteS6 : decodeNote 0b000000000001_0110 = .noteS6 1 := by decide

theorem test_decode_noteS7 : decodeNote 0b000000000010_0111 = .noteS7 2 := by decide

theorem test_decode_noteS8 : decodeNote 0b000000000001_1000 = .noteS8 1 := by decide

theorem test_decode_noteS9 : decodeNote 0b000000000001_1001 = .noteS9 1 := by decide

theorem test_decode_noteX10 : decodeNote 0b000000000001_1010 = .noteX10 1 := by decide

theorem test_decode_noteX11 : decodeNote 0b000000000001_1011 = .noteX11 1 := by decide

theorem test_decode_noteX12 : decodeNote 0b000000000001_1100 = .noteX12 1 := by decide

theorem test_decode_noteX13 : decodeNote 0b000000000001_1101 = .noteX13 1 := by decide

theorem test_decode_noteX14 : decodeNote 0b000000000001_1110 = .noteX14 1 := by decide

theorem test_decode_noteX15 : decodeNote 0b111111111111_1111 = .noteX15 4095 := by decide

/-- Bytes: a word is stored low byte first; what follows is left over (20_memory.md R64). -/
theorem test_decodeBytes_words :
    decodeBytes .step16 [0x55, 0x03, 0xAA] = .ok (.step 0b101010101 1, [0xAA]) ∧
    decodeBytes .note16 [0x27, 0x00] = .ok (.noteS7 2, []) := by decide

theorem test_decodeBytes_refuses :
    decodeBytes .op3 [6] = .error (.reservedOp 6) ∧ decodeBytes .op3 [8] = .error (.opByteTooWide 8) ∧
    decodeBytes .step16 [0x55] = .error .truncated := by decide

theorem test_encode_ex1 :
    encodeWord (.step 0b000000001 1) = 0x0201 ∧ encodeWord (.noteS9 1) = 0x0019 ∧ encodeWord (.noteX12 1) = 0x001C := by decide

/-! ### NEXT (95_test_vectors.md section 3.1) -/

theorem test_next_v1 : after (exec .next base) (·.rng) = some 0x00042021 := by decide

theorem test_next_v4 : after (exec .next { base with rng := 0x80000000 }) (·.rng) = some 0x80084000 := by decide

/-! ### TICK (95_test_vectors.md section 3.2) -/

theorem test_tick_v20_inverts_at_third :
    after (exec .tick { live 10 2 3 with dcnt := 2, ocnt := 2 }) (fun s => (s.dcnt, s.ocnt, s.buz)) = some (3, 0, true) := by decide

theorem test_tick_v29_exit_leaves_silence_counter :
    after (exec .tick { live 3 1 0 with dcnt := 3 }) (fun s => (s.insil, s.dcnt, s.scnt, s.playing)) =
      some (true, 0, 0, true) := by decide

/-! ### ADVANCE and STEP (95_test_vectors.md section 3.3) -/

theorem test_advance_v30_picks :
    after (exec .advance { base with ltick := 7 }) (fun s => (s.psel, s.ptgt, s.led, s.deadline, s.pidx, s.ltick, s.rng)) =
      some (0, 1, 0x001, 2000, 1, 0, 0x00042021) := by decide

theorem test_advance_v31_wraps :
    after (exec .advance (atStep 0 1)) (fun s => (s.led, s.deadline, s.pidx, s.prep, s.psel, s.rng)) =
      some (0x002, 0, 0, 0, 3, 1) := by decide

theorem test_step_v34 :
    after (exec (.step 0b111111111 127) (atStep 1 1)) (fun s => (s.led, s.deadline)) = some (0x1FF, 254000) := by decide

theorem test_step_v32_moves_the_cursor :
    after (exec (.step 0x0AA 2) (atStep 1 1)) (fun s => (s.led, s.deadline, s.pidx, s.psel)) = some (0x0AA, 4000, 2, 1) := by decide

/-! ### DISPATCH and the NOTE entries (95_test_vectors.md section 3.4; half-periods from section 2) -/

theorem test_dispatch_v46_picks :
    after (exec .dispatch { base with rng := 0x00042021 }) (fun s => (s.msel, s.beat, task s, s.rng)) =
      some (1, 2, (10, 40, 20), 0x04080601) := by decide

theorem test_dispatch_v50_refused : refusal (exec .dispatch (live 1 1 1)) = some .dispatchWhilePlaying := by decide

theorem test_noteRest_v41 :
    after (exec (.noteRest 1) (atNote 0 1 1)) (fun s => (task s, s.playing, s.midx)) = some ((0, 20, 10), true, 2) := by decide

theorem test_noteS1_v43 :
    after (exec (.noteS1 1) (atNote 1 0 2)) (fun s => (task s, s.playing, s.midx)) = some ((10, 40, 20), true, 1) := by decide

theorem test_noteS1_v49_wraps :
    after (exec (.noteS1 4095) (atNote 1 0 65535)) (fun s => (s.tAd, s.tPs)) = some (1072349204, 655350) := by decide

theorem test_noteS2 : after (exec (.noteS2 1) (atNote 0 0 1)) task = some (9, 20, 10) := by decide

theorem test_noteS3 : after (exec (.noteS3 1) (atNote 0 0 1)) task = some (8, 20, 10) := by decide

theorem test_noteS3_v47_truncates :
    after (exec (.noteS3 1)
      { atNote 0 0 1 with cfg := { ex1 with mem := { ex1.mem with noteVal := ex1.mem.noteVal.set 3 449 } } }) (·.tHp) = some 8 := by
  decide

theorem test_noteS4 : after (exec (.noteS4 1) (atNote 0 0 1)) task = some (7, 20, 10) := by decide

theorem test_noteS5_v45 :
    after (exec (.noteS5 1) (atNote 1 2 2)) (fun s => (task s, s.playing, s.midx, s.msel)) = some ((6, 40, 20), true, 0, 3) := by
  decide

theorem test_noteS6 : after (exec (.noteS6 1) (atNote 0 0 1)) task = some (5, 20, 10) := by decide

theorem test_noteS7_v42 :
    after (exec (.noteS7 2) (atNote 0 2 1)) (fun s => (task s, s.playing, s.midx, s.msel, s.beat)) =
      some ((4, 40, 10), true, 0, 3, 1) := by decide

theorem test_noteS8 : after (exec (.noteS8 1) (atNote 0 0 1)) task = some (3, 20, 10) := by decide

theorem test_noteS9_v40 :
    after (exec (.noteS9 1) (atNote 0 0 1)) (fun s => (task s, s.playing, s.midx)) = some ((2, 20, 10), true, 1) := by decide

theorem test_noteX10 :
    after (exec (.noteX10 1) (atNote 0 0 1)) (fun s => (task s, s.playing, s.midx)) = some ((0, 0, 0), false, 1) := by decide

theorem test_noteX11 :
    after (exec (.noteX11 1) (atNote 0 0 1)) (fun s => (task s, s.playing, s.midx)) = some ((0, 0, 0), false, 1) := by decide

theorem test_noteX12_v44 :
    after (exec (.noteX12 1) { atNote 1 1 2 with tHp := 10, tAd := 40, tPs := 20 })
      (fun s => (task s, s.playing, s.midx)) = some ((10, 40, 20), false, 2) := by decide

theorem test_noteX13 :
    after (exec (.noteX13 1) (atNote 0 0 1)) (fun s => (task s, s.playing, s.midx)) = some ((0, 0, 0), false, 1) := by decide

theorem test_noteX14 :
    after (exec (.noteX14 1) (atNote 0 0 1)) (fun s => (task s, s.playing, s.midx)) = some ((0, 0, 0), false, 1) := by decide

theorem test_noteX15_last_entry :
    after (exec (.noteX15 4095) (atNote 1 2 2)) (fun s => (task s, s.playing, s.midx, s.msel)) =
      some ((0, 0, 0), false, 0, 3) := by decide

/-! ### POLL (95_test_vectors.md section 3.5, program P1) -/

theorem test_poll_v60_nothing_due :
    after (exec .poll { live 9 9 9 with mph := .p1, ltick := 1999, deadline := 2000 }) id =
      some { live 9 9 9 with mph := .p1, ltick := 1999, deadline := 2000 } := by decide

theorem test_poll_v64_after_reset :
    after (exec .poll base) (fun s => (s.rng, s.psel, s.led, s.msel, task s)) =
      some (0x04080601, 0, 0x001, 1, (10, 40, 20)) := by decide

/-! ### RESET, the interrupt and the interleaving (70_reset_and_hazards.md R180, 60_exceptions.md R162 to R166) -/

theorem test_reset_restores :
    after (exec .reset { live 5 6 7 with led := 3, tarm := false, tpend := true, ien := false, mph := .s3 }) id = some base := by
  decide

theorem test_fire_turn :
    after (step { base with sched := [.turn .fire] }) (fun s => (s.tpend, s.tarm)) = some (true, false) := by decide

theorem test_tick_turn :
    after (step { base with sched := [.turn .tick], tpend := true, tarm := false, mph := .a3 })
      (fun s => (s.ltick, s.tpend, s.tarm, s.ien, s.mph)) = some (1, false, true, true, .a3) := by decide

/-- V70: the clear at A5 erases the ticks counted since P1. -/
theorem test_a5_v70_erases_ticks :
    after (mainStep { atStep 0 0 with mph := .a5, ltick := 2002 }) (fun s => (s.ltick, s.mph)) = some (0, .p2) := by decide

/-- V71: a tick between S2 and S3 counts nothing. -/
theorem test_tick_v71_before_live :
    after (exec .tick { base with tHp := 10, tAd := 40, tPs := 20, mph := .s3, hit := true }) (fun s => (s.dcnt, s.playing)) =
      some (0, false) := by decide

/-- 30_encoding.md R92: the codes of `MPH` in loop order. -/
theorem test_mph_codes :
    [MainPhase.boot, .p1, .a1, .a2, .a3, .a4, .a5, .p2, .s1, .s2, .s3, .s4].map MainPhase.code =
      [0, 1, 2, 3, 4, 5, 6, 7, 8, 9, 10, 11] := by decide

/-- 10_state.md R27, 93_implementation_defined.md U6: with `PLAYING = 0` the phase is IDLE whatever `INSIL` holds. -/
theorem test_phase_tests_playing_first : ({ base with insil := true } : State).phase = .idle := by decide

/-! ### Placing a word and running it as the first instruction after reset (log entry 14) -/

theorem test_place_op : refusal (step (State.reset.withFetchWord 8 6)) = some (.reservedOp 6) := by decide

theorem test_place_note :
    after (step (base.withFetchWord 16 0x0019)) (fun s => (s.playing, s.tHp)) = some (true, 2) := by decide

/-! ### Written forms (30_encoding.md R83, R93, R94; 95_test_vectors.md section 2) -/

theorem test_serialised_ex1 :
    patternBytes [0x0201, 0x0002] = [0x02, 0x00, 0x01, 0x02, 0x02, 0x00] ∧
    melodyBytes ⟨1, [0x0019, 0x0010, 0x0027]⟩ = [0x01, 0x00, 0x03, 0x00, 0x19, 0x00, 0x10, 0x00, 0x27, 0x00] := by decide

theorem test_source_step : stepWordOf (tokensOf "STEP 0x155, 1") = some 0x0355 := by decide

/-- 30_encoding.md R93: `<lines>` has no decimal form. -/
theorem test_source_decimal_lines_refused : stepWordOf (tokensOf "STEP 341, 1") = none := by decide

/-- 30_encoding.md R85: the names `REST`, `S1` to `S9`, `X10` to `X15` and no others; R93: a code in place of a name. -/
theorem test_source_symbol_names :
    ["REST", "S1", "S9", "X10", "X15", "9"].map (fun n => symbolOf n.toList) =
      [some 0, some 1, some 9, some 10, some 15, some 9] ∧
    ["S0", "S09", "S0x9", "S10", "X9", "X16"].map (fun n => symbolOf n.toList) = List.replicate 6 none := by decide

theorem test_source_line_set :
    stepWordOf ["STEP".toList, [openBrace], ['A'], [closeBrace], [','], ['1']] = some 0x0201 := by decide

theorem test_source_melody :
    parseLine (tokensOf "MELODY 0 BEAT 1 : NOTE S9, 1 ; REST 1 ; NOTE S7, 2") =
      some (.melody 0 ⟨1, [0x0019, 0x0010, 0x0027]⟩) := by decide

theorem test_source_trace : traceOf "RESET ; POLL ; TICK*2" = some [.op 0, .op 2, .op 1, .op 1] := by decide

/-! ### Witnesses: a state and operands that meet the hypotheses of an obligation together, one for each clause -/

/-- An unselected light side and a melody at its first entry, at S3 with a hit. -/
def atS3 : State := { atNote 0 0 1 with mph := .s3, hit := true, sched := [.turn .main] }

/-- As `atS3`, at S2. -/
def atS2 : State := { atNote 0 0 1 with mph := .s2, sched := [.turn .main] }

/-- A pending tick that ends an ACTIVE phase. -/
def activeEnd : State := { live 4 3 0 with dcnt := 4, tpend := true, tarm := false, sched := [.turn .tick] }

/-- A pending tick that ends a note. -/
def noteEnd : State := { live 4 3 0 with insil := true, tpend := true, tarm := false, sched := [.turn .tick] }

/-- A POST_SILENCE phase with threshold `ps`. -/
def silent (ps : Word) : State := { live 0 3 ps with insil := true }

/-- V61: the light side is due and the buzzer side is not. -/
def lightDueOnly : State := { atStep 0 0 with playing := true, ltick := 2000, deadline := 2000 }

/-- V63: the buzzer side is due and the light side is not. -/
def buzzerDueOnly : State := { atNote 0 0 1 with ltick := 5, deadline := 2000 }

/-- V60: neither side is due. -/
def nothingDue : State := { live 4 9 9 with ltick := 1999, deadline := 2000 }

/-- Turns that go round the three agents. -/
def roundTurns (n : Nat) : Choice := if n % 3 = 0 then .fire else if n % 3 = 1 then .tick else .main

/-- A turn of one agent, with a tick pending. -/
def turnOf (c : Choice) : State := { base with sched := [.turn c], tpend := true }

/-- A listed turn; with nothing listed the mover is the free choice itself, whatever it is. -/
theorem witness_ResetSetsEveryRegister :
    mover (turnOf .reset) = some .reset ∧ ∀ c, Config.freeChoice base.draw = c → mover base = some c :=
  ⟨rfl, fun _ h => congrArg some h⟩

theorem witness_ResetKeepsTheParameters : ∃ t, exec .reset (live 5 6 7) = .next t := ⟨_, rfl⟩

theorem witness_InvariantHoldsAtReset : ex1.wf = true := by decide

theorem witness_GeneratorIsNeverZero :
    (∃ t t', exec .next base = .next t ∧ exec .next base = .next t' ∧ t.rng = t'.rng) ∧
    ∃ t, base.rng ≠ 0 ∧ base.cfg.seed ≠ 0 ∧ step { base with sched := [.op 0b011] } = .next t :=
  ⟨⟨_, _, rfl, rfl, rfl⟩, _, by decide, by decide, rfl⟩

theorem witness_GeneratorMovesOnlyAtAPick : ∃ t, exec .poll base = .next t := ⟨_, rfl⟩

theorem witness_IdleTickForcesTheLineLow : base.playing = false := rfl

/-- The four branches, at the values where they meet. -/
theorem witness_ActiveTick :
    ((live 3 1 0).playing = true ∧ (live 3 1 0).insil = false) ∧
    (live 3 1 0).tAd < ({ live 3 1 0 with dcnt := 3 } : State).dcnt + 1 ∧
    (¬(live 3 0 0).tAd < ({ live 3 0 0 with dcnt := 2 } : State).dcnt + 1 ∧ (live 3 0 0).tHp = 0) ∧
    ((live 3 1 0).tHp ≠ 0 ∧ (live 3 1 0).tHp < ({ live 3 1 0 with ocnt := 1 } : State).ocnt + 1) ∧
    ¬(live 3 1 0).tHp < (live 3 1 0).ocnt + 1 := by decide

theorem witness_PostSilenceTickEndsTheNote :
    ((silent 0).playing = true ∧ (silent 0).insil = true ∧ after (exec .tick (silent 0)) (·.playing) = some false) ∧
    (silent 1).playing = true ∧ (silent 1).insil = true ∧ after (exec .tick (silent 1)) (·.playing) = some true := by decide

/-- One state for each row of the table of 43_tick_playback.md R138. -/
theorem witness_PhaseChangesOnlyAsTheTableSays :
    (Inv atS3 ∧ mover atS3 = some .main ∧ atS3.phase = .idle ∧ after (step atS3) (·.phase) = some .active) ∧
    (Inv activeEnd ∧ mover activeEnd = some .tick ∧ activeEnd.phase = .active ∧
      after (step activeEnd) (·.phase) = some .postSilence) ∧
    Inv noteEnd ∧ mover noteEnd = some .tick ∧ noteEnd.phase = .postSilence ∧ after (step noteEnd) (·.phase) = some .idle := by
  and_intros <;> decide

/-- V20 and V22, and the largest active duration DISPATCH can write. -/
theorem witness_NoteTicksFollowTheClosedForm :
    [live 10 2 3, live 0 3 0, live 0xFFFFFFFC 0 655350].all fun s => decide (s.playing = true ∧ s.insil = false ∧ s.dcnt = 0 ∧
      s.scnt = 0 ∧ s.ocnt = 0 ∧ s.buz = false ∧ s.tAd.toNat < 2 ^ 32 - 1 ∧ s.tPs.toNat < 2 ^ 32 - 1) := by decide

theorem witness_TopThreshold :
    ((live (BitVec.allOnes 32) 1 0).playing = true ∧ (live (BitVec.allOnes 32) 1 0).insil = false ∧
      (live (BitVec.allOnes 32) 1 0).tAd = BitVec.allOnes 32) ∧
    ((silent (BitVec.allOnes 32)).playing = true ∧ (silent (BitVec.allOnes 32)).insil = true ∧
      (silent (BitVec.allOnes 32)).tPs = BitVec.allOnes 32) ∧
    ((live 9 (BitVec.allOnes 32) 0).insil = false ∧ (live 9 (BitVec.allOnes 32) 0).tHp = BitVec.allOnes 32 ∧
      after (exec .tick (live 9 (BitVec.allOnes 32) 0)) (·.insil) = some false) ∧
    after (exec .dispatch (atNote 1 0 65535)) (·.playing) = some true := by decide

theorem witness_StepDrivesLinesAndSetsDeadline :
    (atStep 0 1).psel.toNat = (0 : Fin 3).val ∧ (atStep 2 7).psel.toNat = (2 : Fin 3).val ∧ base.psel = 3 := by decide

theorem witness_EmittedLinesFollowTheWord : ∃ t, exec (decodeStep 0xFFFF) (atStep 2 7) = .next t := ⟨_, rfl⟩

/-- With nothing selected, and with the last pattern at its last word. -/
theorem witness_AdvancePicks :
    (base.psel = 3 ∧ (generator base.rng).toNat % 3 = (0 : Fin 3).val ∧
      base.cfg.mem.pattern[(0 : Fin 3)][base.pidx.toNat]? = some 0x0201) ∧
    (atStep 2 7).psel ≠ 3 ∧ (atStep 2 7).psel.toNat = (2 : Fin 3).val ∧
      (atStep 2 7).cfg.mem.pattern[(2 : Fin 3)][(atStep 2 7).pidx.toNat]? = some 0x0280 := by decide

theorem witness_PatternPlaysExactlyOnce :
    let s := atStep 2 0
    s.cfg.wf = true ∧ s.psel.toNat = (2 : Fin 3).val ∧ s.pidx = 0 ∧ s.prep = 0 ∧ s.ptgt = 1 ∧
      s.cfg.mem.pattern[(2 : Fin 3)][0]? = some 0x0201 ∧ s.cfg.mem.pattern[(2 : Fin 3)][7]? = some 0x0280 ∧
      0 + 1 < s.cfg.mem.pattern[(2 : Fin 3)].length ∧ 7 + 1 = s.cfg.mem.pattern[(2 : Fin 3)].length := by decide

theorem witness_MultiplierZero : ∃ t, exec (.step 2 0) (atStep 0 1) = .next t := ⟨_, rfl⟩

theorem witness_TableNotesDispatchTheirTask :
    (((.noteRest 4095, 0) : Instr × Fin 10) ∈ hitRows 4095 ∧ (atNote 1 2 2).playing = false ∧
      (atNote 1 2 2).msel.toNat = (1 : Fin 2).val) ∧
    ((.noteS9 0, 9) : Instr × Fin 10) ∈ hitRows 0 ∧ (atNote 0 0 1).msel.toNat = (0 : Fin 2).val := by decide

theorem witness_AbsentSymbolsOnlyMoveTheCursor :
    (Instr.noteX10 0 ∈ missRows 0 ∧ (atNote 0 0 1).playing = false ∧ (atNote 0 0 1).msel.toNat = (0 : Fin 2).val) ∧
    Instr.noteX15 4095 ∈ missRows 4095 ∧ (atNote 1 2 1).msel.toNat = (1 : Fin 2).val := by decide

theorem witness_NotesAreRefused :
    (live 1 1 1).playing = true ∧ Instr.noteS9 1 ∈ (hitRows 1).map Prod.fst ∧ Instr.noteX10 1 ∈ missRows 1 ∧
    base.playing = false ∧ Instr.noteS9 1 ≠ .dispatch ∧ base.msel = 3 ∧ (atNote 2 0 1).msel = 2 := by decide

/-- With nothing selected and a table symbol; with the last symbol of the table; with the first symbol outside it. -/
theorem witness_DispatchPicks :
    (base.playing = false ∧ base.msel = 3 ∧ (generator base.rng).toNat % 2 = (1 : Fin 2).val ∧
      base.cfg.mem.melody[(1 : Fin 2)].notes[base.midx.toNat]? = some 0x0011 ∧ (0x0011 : Elem).toNat % 16 = (1 : Fin 10).val) ∧
    ((atNote 0 0 1).msel ≠ 3 ∧ (atNote 0 0 1).msel.toNat = (0 : Fin 2).val ∧
      (atNote 0 0 1).cfg.mem.melody[(0 : Fin 2)].notes[(atNote 0 0 1).midx.toNat]? = some 0x0019 ∧
      (0x0019 : Elem).toNat % 16 = (9 : Fin 10).val) ∧
    (atNote 1 1 2).cfg.mem.melody[(1 : Fin 2)].notes[(atNote 1 1 2).midx.toNat]? = some 0x001C ∧
      9 < (0x001C : Elem).toNat % 16 := by decide

theorem witness_DispatchedNoteLastsItsTicks :
    DataOk (atNote 0 2 1) ∧ after (exec .dispatch (atNote 0 2 1)) (·.playing) = some true := by decide

/-- Nothing selected, and an index at the length of the table the pick gives. -/
def pickedPatternPast : State := { base with pidx := 2 }

/-- As `pickedPatternPast`, on the tone side. -/
def pickedMelodyPast : State := { base with midx := 3 }

/-- A cursor at the length of the selected table, and at the length of the table the pick gives. -/
theorem witness_ReadsOutsideATableAreRefused :
    ((atStep 0 2).psel.toNat = (0 : Fin 3).val ∧ (atStep 0 2).cfg.mem.pattern[(0 : Fin 3)].length ≤ (atStep 0 2).pidx.toNat) ∧
    (pickedPatternPast.psel = 3 ∧ (generator pickedPatternPast.rng).toNat % 3 = (0 : Fin 3).val ∧
      pickedPatternPast.cfg.mem.pattern[(0 : Fin 3)].length ≤ pickedPatternPast.pidx.toNat) ∧
    ((atNote 1 3 1).playing = false ∧ (atNote 1 3 1).msel.toNat = (1 : Fin 2).val ∧
      (atNote 1 3 1).cfg.mem.melody[(1 : Fin 2)].notes.length ≤ (atNote 1 3 1).midx.toNat) ∧
    (pickedMelodyPast.playing = false ∧ pickedMelodyPast.msel = 3 ∧
      (generator pickedMelodyPast.rng).toNat % 2 = (1 : Fin 2).val ∧
      pickedMelodyPast.cfg.mem.melody[(1 : Fin 2)].notes.length ≤ pickedMelodyPast.midx.toNat) ∧
    (atNote 2 0 1).playing = false ∧ (atNote 2 0 1).msel = 2 := by
  and_intros <;> decide

/-- V61 and V63: the light side due and the buzzer side not, and the other way round. -/
theorem witness_PollRunsTheDueWorkInOrder :
    (lightDueOnly.deadline ≤ lightDueOnly.ltick ∧ after (exec .advance lightDueOnly) (·.playing) = some true) ∧
    ¬buzzerDueOnly.deadline ≤ buzzerDueOnly.ltick ∧ buzzerDueOnly.playing = false ∧
    after (exec .dispatch buzzerDueOnly) (·.playing) = some true := by decide

theorem witness_PollCompletes :
    (DataOk nothingDue ∧ nothingDue.ltick < nothingDue.deadline ∧ nothingDue.playing = true) ∧
    DataOk base ∧ base.deadline ≤ base.ltick := by
  and_intros <;> decide

theorem witness_FirstPollAfterReset :
    ex1.wf = true ∧ (generator ex1.seed).toNat % 3 = (0 : Fin 3).val ∧
    (generator (generator ex1.seed)).toNat % 2 = (1 : Fin 2).val ∧ ex1.mem.pattern[(0 : Fin 3)][0]? = some 0x0201 ∧
    ex1.mem.melody[(1 : Fin 2)].notes[0]? = some 0x0011 ∧ (0x0011 : Elem).toNat % 16 = (1 : Fin 10).val := by decide

theorem witness_TicksDuringBoot : ex1.wf = true := by decide

theorem witness_MainContextFollows :
    mover (turnOf .main) = some .main ∧ (after (mainStep base) (·.mph) = some .p1) ∧
    [MainPhase.p1, .a1, .a2, .a3, .a4, .a5, .p2, .s1, .s2, .s3, .s4].all
      (fun p => (after (mainStep { base with psel := 0, msel := 0, mph := p }) (·.mph)).isSome) := by decide

theorem witness_TicksBeforeTheClear : ({ base with mph := .a5 } : State).mph = .a5 := rfl

theorem witness_AdvanceIsItsFiveSubSteps : ({ base with mph := .a1 } : State).mph = .a1 := rfl

theorem witness_DispatchIsItsFourSubSteps :
    ({ base with mph := .s1 } : State).mph = .s1 ∧ ({ base with mph := .s1 } : State).playing = false := ⟨rfl, rfl⟩

theorem witness_PollIsItsSubSteps : ({ base with mph := .p1, hit := true } : State).mph = .p1 := rfl

theorem witness_TickSourceFires :
    (mover (turnOf .fire) = some .fire ∧ (turnOf .fire).tarm = true) ∧
    mover { turnOf .fire with tarm := false } = some .fire := ⟨⟨rfl, rfl⟩, rfl⟩

theorem witness_PendingTick :
    (mover (turnOf .tick) = some .tick ∧ (turnOf .tick).tpend = true ∧ (turnOf .tick).ien = true) ∧
    mover { turnOf .tick with tpend := false } = some .tick := ⟨⟨rfl, rfl, rfl⟩, rfl⟩

theorem witness_TickCommutes :
    let s : State := { atNote 1 0 2 with mph := .s2 }
    s.mph ≠ .p1 ∧ s.mph ≠ .a5 ∧ s.mph ≠ .p2 ∧ s.mph ≠ .s3 ∧ (s.mph = .s2 → s.playing = false) := by decide

/-- One step of each context. -/
theorem witness_ContextsWriteOnly :
    [Choice.tick, .main, .fire].all (fun c => decide (mover (turnOf c) = some c) &&
      (after (step (turnOf c)) (·.mph)).isSome) := by decide

/-- S3 on a hit; the tick that ends a note; S2 on a hit. -/
theorem witness_HandoffGate :
    (Inv atS3 ∧ mover atS3 ≠ some .reset ∧ atS3.playing = false ∧ after (step atS3) (·.playing) = some true) ∧
    (Inv noteEnd ∧ mover noteEnd ≠ some .reset ∧ noteEnd.playing = true ∧ after (step noteEnd) (·.playing) = some false) ∧
    Inv atS2 ∧ mover atS2 ≠ some .reset ∧ after (step atS2) (·.tHp) = some 2 ∧ atS2.tHp ≠ 2 := by
  and_intros <;> decide

theorem witness_EveryStepKeepsTheInvariant :
    let s : State := { base with sched := [.turn .main] }
    Inv s ∧ after (step s) (·.mph) = some .p1 := by decide

theorem witness_EveryOperationKeepsTheData : DataOk base ∧ (after (exec .poll base) (·.mph)).isSome := by decide

theorem witness_ClosedBlockNeverStops : Inv base := by decide

theorem witness_NoStepWritesATable :
    let s : State := { base with sched := [.op 0b010] }
    s.cfg.mem.wf = true ∧ (after (step s) (·.mph)).isSome := by decide

theorem witness_FairTurns : FairTurns roundTurns ∧ (∀ n, roundTurns n ≠ .reset) ∧ Inv base := by
  refine ⟨?_, ?_, by decide⟩
  · intro c hc n
    cases c with
    | reset => exact absurd rfl hc
    | fire => exact ⟨3 * n, by omega, if_pos (by omega)⟩
    | tick => exact ⟨3 * n + 1, by omega, by rw [roundTurns, if_neg (by omega), if_pos (by omega)]⟩
    | main => exact ⟨3 * n + 2, by omega, by rw [roundTurns, if_neg (by omega), if_neg (by omega)]⟩
  · intro n
    unfold roundTurns
    split
    · decide
    · split <;> decide

theorem witness_EncodeOfDecode : decodeOp 0b101 = some .next := by decide

theorem witness_WordsSelectOnlyTheirOwnRow : (⟨"NEXT", .op3, 3, 0x5, 0x7⟩ : TableRow) ∈ opcodeTable := by decide

theorem witness_ReservedCodes :
    ({ base with sched := [.op 6] } : State).sched = .op 6 :: [] ∧ 6 ≤ (6 : BitVec 3).toNat ∧ 6 ≤ (7 : BitVec 3).toNat ∧
    ¬6 ≤ (5 : BitVec 3).toNat := by decide

theorem witness_StepRunsTheDecodedOperation :
    ({ base with sched := [.op 0b101] } : State).sched = .op 0b101 :: [] ∧ decodeOp 0b101 = some .next := by decide

theorem witness_StepRunsTheWordUnderTheCursor :
    (({ atStep 2 7 with sched := [.op 0b011] } : State).sched = .op 0b011 :: [] ∧ (atStep 2 7).psel ≠ 3 ∧
      memRead (atStep 2 7).cfg.mem ⟨.pattern, (atStep 2 7).psel.toNat, (atStep 2 7).pidx.toNat⟩ = some 0x0280) ∧
    ({ atNote 1 2 2 with sched := [.op 0b100] } : State).sched = .op 0b100 :: [] ∧ (atNote 1 2 2).msel ≠ 3 ∧
    memRead (atNote 1 2 2).cfg.mem ⟨.melody, (atNote 1 2 2).msel.toNat, (atNote 1 2 2).midx.toNat⟩ = some 0x0015 := by decide

theorem witness_PlacedWord :
    decodeTableWord 8 5 = some .next ∧ decodeTableWord 16 0xFFFF = some (.noteX15 4095) := by decide

theorem witness_SerialisedTablesReadBack :
    [(0x0201 : Elem), 0x0002].length < 65536 ∧ ex1.mem.melody[0].notes.length < 65536 := by decide

end Sys2Proof.Tests
end

section
/-! The invariant of the closed block, part by part: the generator, the cursors, the playback state and the task under the
single updates that write them. -/

namespace Sys2Proof.Machine

/-! ### The generator -/

/-- A word that equals itself shifted left has no lowest 1 bit: each bit is 0 or the bit `n` places below it. -/
theorem xor_shiftLeft_ne_zero {x : Word} {n : Nat} (hn : 0 < n) (hx : x ≠ 0) : x ^^^ (x <<< n) ≠ 0 := by
  intro h0
  have hself : x = x <<< n := BitVec.xor_eq_zero_iff.1 h0
  refine hx (BitVec.eq_of_getLsbD_eq fun i hi => ?_)
  induction i using Nat.strong_induction_on with
  | _ i ih =>
    rw [hself, BitVec.getLsbD_shiftLeft]
    by_cases hlow : i < n
    · simp [hlow]
    · simp [ih (i - n) (by omega) (by omega)]

/-- A word that equals itself shifted right is at most half of itself, so it is 0. -/
theorem xor_ushiftRight_ne_zero {x : Word} {n : Nat} (hn : 0 < n) (hx : x ≠ 0) : x ^^^ (x >>> n) ≠ 0 := by
  intro h0
  have hself : x.toNat = x.toNat / 2 ^ n := by
    simpa [Nat.shiftRight_eq_div_pow] using congrArg BitVec.toNat (BitVec.xor_eq_zero_iff.1 h0)
  have hpos : 0 < x.toNat := Nat.pos_of_ne_zero fun h => hx (BitVec.eq_of_toNat_eq h)
  exact absurd (Nat.div_lt_self hpos (Nat.one_lt_two_pow hn.ne')) (by omega)

/-- 40_prng.md R101: none of the generator's three stages maps a non-zero word to 0. -/
theorem xorshift_ne_zero {x : Word} (h : x ≠ 0) : xorshift x ≠ 0 :=
  xor_shiftLeft_ne_zero (by decide) (xor_ushiftRight_ne_zero (by decide) (xor_shiftLeft_ne_zero (by decide) h))

/-! ### The cursors -/

theorem sel_ne_none_of_lt {sel : Sel} {n : Nat} (hn : n ≤ 3) (h : sel.toNat < n) : sel ≠ selNone := by
  rintro rfl
  exact absurd h (by simp; omega)

/-- Only a selected pattern has a length, and it is one of 1 to 255. -/
theorem patternLength_bounds {m : Memory} {sel : Sel} {len : Nat} (hw : m.wf = true) (h : patternLength m sel = some len) :
    sel ≠ selNone ∧ 1 ≤ len ∧ len ≤ 255 := by
  rcases selNone_or_pattern sel with rfl | hlt
  · simp [patternLength] at h
  · rw [patternLength_selected m sel hlt, Option.some.injEq] at h
    exact ⟨sel_ne_none_of_lt le_rfl hlt, h ▸ pattern_length_bounds hw _ hlt⟩

/-- Only a selected melody has a length, and it is one of 1 to 255. -/
theorem melodyLength_bounds {m : Memory} {sel : Sel} {len : Nat} (hw : m.wf = true) (h : melodyLength m sel = some len) :
    sel ≠ selNone ∧ 1 ≤ len ∧ len ≤ 255 := by
  rcases selNone_or_melody sel with rfl | rfl | hlt
  · simp [melodyLength] at h
  · simp [melodyLength] at h
  · rw [melodyLength_selected m sel hlt, Option.some.injEq] at h
    exact ⟨sel_ne_none_of_lt (by decide) hlt, h ▸ melody_length_bounds hw _ hlt⟩

/-- A cursor inside a table of at most 255 words does not wrap at 2^8 when it moves on. -/
theorem index_succ_lt {i : Index} {len : Nat} (hi : i.toNat < len) (hlen : len ≤ 255) (h : (i + 1).toNat ≠ len) :
    (i + 1).toNat < len := by
  have : (i + 1).toNat = (i.toNat + 1) % 256 := by simp [BitVec.toNat_add]
  omega

/-- The last step of a pattern played once ends the selection, an earlier one moves the cursor on (41_light_sequencer.md R114). -/
theorem patternCursorOk_stepPatternCursor {s : State} {len : Nat} (hw : s.cfg.mem.wf = true) (h : PatternCursorOk s)
    (hl : patternLength s.cfg.mem s.psel = some len) : PatternCursorOk (stepPatternCursor len s) := by
  obtain ⟨hne, -, hlen⟩ := patternLength_bounds hw hl
  obtain ⟨hprep, -, hsel⟩ := h
  obtain ⟨htgt, hin⟩ := hsel hne
  have hgetD : (patternLength s.cfg.mem s.psel).getD 0 = len := by rw [hl, Option.getD_some]
  by_cases hwrap : (s.pidx + 1).toNat = len
  · have hlast : s.prep + 1 = s.ptgt := by rw [hprep, htgt]; rfl
    rw [stepPatternCursor, if_pos hwrap, if_pos hlast]
    exact ⟨rfl, fun _ => rfl, fun hn => absurd rfl hn⟩
  · have hin' : (s.pidx + 1).toNat < len := index_succ_lt (hin.trans_eq hgetD) hlen hwrap
    rw [stepPatternCursor, if_neg hwrap]
    exact ⟨hprep, fun hn => absurd hn hne, fun _ => ⟨htgt, hin'.trans_eq hgetD.symm⟩⟩

/-- The last entry of a melody ends the selection, an earlier one moves the cursor on (42_tone_scheduler.md R126). -/
theorem melodyCursorOk_stepMelodyCursor {s : State} {len : Nat} (hw : s.cfg.mem.wf = true) (h : MelodyCursorOk s)
    (hl : melodyLength s.cfg.mem s.msel = some len) : MelodyCursorOk (stepMelodyCursor len s) := by
  obtain ⟨hne, -, hlen⟩ := melodyLength_bounds hw hl
  obtain ⟨htwo, -, hsel⟩ := h
  obtain ⟨hin, hbeat⟩ := hsel hne
  have hgetD : (melodyLength s.cfg.mem s.msel).getD 0 = len := by rw [hl, Option.getD_some]
  by_cases hwrap : (s.midx + 1).toNat = len
  · rw [stepMelodyCursor, if_pos hwrap]
    exact ⟨show selNone ≠ 2 by decide, fun _ => rfl, fun hn => absurd rfl hn⟩
  · have hin' : (s.midx + 1).toNat < len := index_succ_lt (hin.trans_eq hgetD) hlen hwrap
    rw [stepMelodyCursor, if_neg hwrap]
    exact ⟨htwo, fun hn => absurd hn hne, fun _ => ⟨hin'.trans_eq hgetD.symm, hbeat⟩⟩

/-! ### The task -/

theorem halfPeriodOf_le (value : Elem) : (halfPeriodOf value).toNat ≤ 1310 := by
  have := value.isLt
  simp [halfPeriodOf]
  omega

theorem silenceOf_le (beat : Elem) : (silenceOf beat).toNat ≤ 655350 := by
  have hlt := beat.isLt
  have hmul : (silenceOf beat).toNat = beat.toNat * 10 := by
    simp [silenceOf, BitVec.toNat_mul, Nat.mod_eq_of_lt (show beat.toNat * 10 < 4294967296 by omega)]
  omega

/-- `AD_MUL` is a multiple of 4, and so is `2^32`: the product stays one when it wraps (43_tick_playback.md R141). -/
theorem activeOf_mod_four (du : BitVec 12) (beat : Elem) : (activeOf du beat).toNat % 4 = 0 := by
  simp only [activeOf, BitVec.toNat_mul]
  generalize (du.setWidth 32).toNat * (beat.setWidth 32).toNat % 2 ^ 32 = n
  simp
  omega

/-! ### The playback state -/

theorem tickBody_playing_of_idle {s : State} (h : s.playing = false) : (tickBody s).playing = false := by
  rw [tickBody_idle h]
  exact h

theorem playbackOk_postSilenceTick {s : State} (h : PlaybackOk s) (hp : s.playing = true) (hi : s.insil = true) :
    PlaybackOk (postSilenceTick s) := by
  obtain ⟨-, hsil, -⟩ := h
  obtain ⟨hd, ho, -⟩ := hsil hi
  by_cases hexit : s.tPs < s.scnt + 1
  · rw [postSilenceTick_exit hexit]
    simp [PlaybackOk, hd, ho]
  · rw [postSilenceTick_stay hexit]
    simp [PlaybackOk, hd, ho, hp, hi]

/-- Of the four ACTIVE branches only the exit enters the post-silence, and it clears what has to be 0 there. -/
theorem playbackOk_activeTick {s : State} (h : PlaybackOk s) (hp : s.playing = true) (hi : s.insil = false) :
    PlaybackOk (activeTick s) := by
  obtain ⟨-, -, hscnt⟩ := h
  have hs := hscnt hi
  by_cases hexit : s.tAd < s.dcnt + 1
  · rw [activeTick_exit hexit]
    simp [PlaybackOk, hp]
  · have hstays : (activeTick s).insil = false := by
      by_cases hrest : s.tHp = 0
      · rw [activeTick_rest hexit hrest]
        exact hi
      · simpa [activeTick_tone hexit hrest] using hi
    simp [PlaybackOk, hstays, hp, hs]

theorem playbackOk_tickBody {s : State} (h : PlaybackOk s) : PlaybackOk (tickBody s) := by
  cases hp : s.playing with
  | false =>
    rw [tickBody_idle hp]
    obtain ⟨hidle, -, -⟩ := h
    simp [PlaybackOk, hidle hp]
  | true =>
    cases hi : s.insil with
    | true =>
      rw [tickBody_postSilence hp hi]
      exact playbackOk_postSilenceTick (s := countTick s) h hp hi
    | false =>
      rw [tickBody_active hp hi]
      exact playbackOk_activeTick (s := countTick s) h hp hi

end Sys2Proof.Machine
end

section
/-! `DataOk` under each update, each sub-step and each operation. -/

namespace Sys2Proof.Machine

theorem dataOk_resetOf {c : Params} (h : c.wf = true) : DataOk (State.resetOf c) := by
  exact ⟨h, ((params_wf_iff c).1 h).1, ⟨rfl, fun _ => rfl, fun hn => absurd rfl hn⟩,
    ⟨show selNone ≠ 2 by decide, fun _ => rfl, fun hn => absurd rfl hn⟩,
    by simp [PlaybackOk, State.resetOf], by simp [TaskOk, State.resetOf]⟩

theorem dataOk_drawNext {s : State} (h : DataOk s) : DataOk (drawNext s) := by
  obtain ⟨hcfg, hrng, hrest⟩ := h
  exact ⟨hcfg, xorshift_ne_zero hrng, hrest⟩

theorem dataOk_tickBody {s : State} (h : DataOk s) : DataOk (tickBody s) := by
  obtain ⟨hcfg, hrng, hpat, hmel, hplay, htask⟩ := h
  exact ⟨by simpa using hcfg, by simpa using hrng, by simpa [PatternCursorOk] using hpat,
    by simpa [MelodyCursorOk, beatAddr] using hmel, playbackOk_tickBody hplay, by simpa [TaskOk] using htask⟩

/-! ### The light sequencer -/

theorem dataOk_setDeadline {s : State} (mult : BitVec 7) (h : DataOk s) : DataOk (setDeadline mult s) := by
  obtain ⟨hcfg, hrng, hpat, hmel, hplay, -, htask⟩ := h
  have hdl : (deadlineOf mult).toNat ≤ 254000 := by
    have := mult.isLt
    rw [deadlineOf_toNat]
    omega
  exact ⟨hcfg, hrng, hpat, hmel, hplay, hdl, htask⟩

theorem subA1_psel_ne_none (s : State) : (subA1 s).psel ≠ selNone := by
  by_cases h : s.psel = selNone
  · simpa [subA1, h] using sel_ne_none_of_lt le_rfl (pickOf_lt (xorshift s.rng) 3 (by decide) le_rfl)
  · rwa [subA1_selected h]

/-- The pick starts a pattern at its first word, which every pattern has. -/
theorem dataOk_subA1 {s : State} (h : DataOk s) : DataOk (subA1 s) := by
  by_cases hsel : s.psel = selNone
  · obtain ⟨hcfg, hrng, ⟨hprep, hrest, -⟩, hother⟩ := dataOk_drawNext h
    have hlt : (pickOf (drawNext s).rng 3).toNat < 3 := pickOf_lt _ 3 (by decide) le_rfl
    have hlen := pattern_length_bounds ((params_wf_iff _).1 hcfg).2 _ hlt
    have hpidx : (drawNext s).pidx = 0 := hrest hsel
    rw [subA1, if_pos hsel]
    refine ⟨hcfg, hrng, ⟨hprep, fun _ => hpidx, fun _ => ⟨rfl, ?_⟩⟩, hother⟩
    rw [patternLength_selected _ _ hlt, hpidx]
    exact hlen.1
  · rwa [subA1_selected hsel]

theorem dataOk_stepPatternCursor {s : State} {len : Nat} (h : DataOk s) (hl : patternLength s.cfg.mem s.psel = some len) :
    DataOk (stepPatternCursor len s) := by
  obtain ⟨hcfg, hrng, hpat, hmel, hplay, htask⟩ := h
  have hpat' := patternCursorOk_stepPatternCursor ((params_wf_iff _).1 hcfg).2 hpat hl
  exact ⟨by simpa using hcfg, by simpa using hrng, hpat', by simpa [MelodyCursorOk, beatAddr] using hmel,
    by simpa [PlaybackOk] using hplay, by simpa [TaskOk] using htask⟩

theorem dataOk_execStep {lines : BitVec 9} {mult : BitVec 7} {s t : State} (h : DataOk s)
    (he : execStep lines mult s = .next t) : DataOk t := by
  obtain ⟨len, hl, rfl⟩ := execStep_eq_next_iff.1 he
  have hs : DataOk (setDeadline mult (emitLines lines s)) := dataOk_setDeadline (s := emitLines lines s) mult h
  exact dataOk_stepPatternCursor hs hl

theorem dataOk_execAdvance {s t : State} (h : DataOk s) (he : execAdvance s = .next t) : DataOk t := by
  obtain ⟨w, -, hw⟩ := execAdvance_eq_next_iff.1 he
  exact dataOk_execStep (dataOk_subA1 h) hw

/-! ### The tone scheduler -/

theorem dataOk_writeTask {s : State} (value : Elem) (du : BitVec 12) (h : DataOk s) : DataOk (writeTask value du s) := by
  obtain ⟨hcfg, hrng, hpat, hmel, hplay, hdl, -⟩ := h
  exact ⟨hcfg, hrng, hpat, hmel, hplay, hdl, halfPeriodOf_le _, silenceOf_le _, activeOf_mod_four _ _⟩

/-- A task going live finds the playback state at 0, as `PLAYING = 0` has left it. -/
theorem dataOk_goLive {s : State} (hit : Bool) (h : DataOk s) : DataOk (goLive hit s) := by
  obtain ⟨hcfg, hrng, hpat, hmel, ⟨hidle, hsil⟩, htask⟩ := h
  exact ⟨hcfg, hrng, hpat, hmel, ⟨fun hp => hidle (Bool.or_eq_false_iff.1 hp).1, hsil⟩, htask⟩

theorem subS1_msel_ne_none {s t : State} (h : subS1 s = .next t) : t.msel ≠ selNone := by
  rcases subS1_eq_next_iff.1 h with ⟨hsel, rfl⟩ | ⟨-, b, -, rfl⟩
  · exact hsel
  · exact sel_ne_none_of_lt (by decide) (pickOf_lt (xorshift s.rng) 2 (by decide) (by decide))

/-- The pick starts a melody at its first entry, which every melody has, with its own beat loaded. -/
theorem dataOk_subS1 {s t : State} (h : DataOk s) (he : subS1 s = .next t) : DataOk t := by
  rcases subS1_eq_next_iff.1 he with ⟨-, rfl⟩ | ⟨hsel, b, hb, rfl⟩
  · exact h
  · obtain ⟨hcfg, hrng, hpat, ⟨-, hrest, -⟩, hother⟩ := h
    have hlt : (pickOf (xorshift s.rng) 2).toNat < 2 := pickOf_lt _ 2 (by decide) (by decide)
    have htwo : pickOf (xorshift s.rng) 2 ≠ 2 := fun h2 => absurd (h2 ▸ hlt) (by decide)
    have hlen := melody_length_bounds ((params_wf_iff _).1 hcfg).2 _ hlt
    refine ⟨hcfg, xorshift_ne_zero hrng, hpat, ⟨htwo, fun _ => hrest hsel, fun _ => ⟨?_, hb⟩⟩, hother⟩
    simp only [melodyLength_selected _ _ hlt, hrest hsel]
    exact hlen.1

theorem dataOk_stepMelodyCursor {s : State} {len : Nat} (h : DataOk s) (hl : melodyLength s.cfg.mem s.msel = some len) :
    DataOk (stepMelodyCursor len s) := by
  obtain ⟨hcfg, hrng, hpat, hmel, hplay, htask⟩ := h
  have hmel' := melodyCursorOk_stepMelodyCursor ((params_wf_iff _).1 hcfg).2 hmel hl
  exact ⟨by simpa using hcfg, by simpa using hrng, by simpa [PatternCursorOk] using hpat, hmel',
    by simpa [PlaybackOk] using hplay, by simpa [TaskOk] using htask⟩

/-- A NOTE entry is a table hit, which writes a task and marks it live, or a miss; both move the cursor. -/
theorem dataOk_execNoteOf {sym : BitVec 4} {du : BitVec 12} {s t : State} (h : DataOk s)
    (he : execNoteOf sym du s = .next t) : DataOk t := by
  rw [execNoteOf_eq] at he
  by_cases hsym : sym.toNat ≤ 9
  · rw [if_pos hsym] at he
    obtain ⟨-, len, hl, rfl⟩ := (noteHit_eq_next_iff hsym).1 he
    exact dataOk_stepMelodyCursor (dataOk_goLive _ (dataOk_writeTask _ _ h)) hl
  · rw [if_neg hsym] at he
    obtain ⟨-, len, hl, rfl⟩ := noteMiss_eq_next_iff.1 he
    exact dataOk_stepMelodyCursor h hl

theorem dataOk_execDispatch {s t : State} (h : DataOk s) (he : execDispatch s = .next t) : DataOk t := by
  obtain ⟨-, u, hu, e, -, hn⟩ := execDispatch_eq_next_iff.1 he
  exact dataOk_execNoteOf (dataOk_subS1 h hu) hn

/-! ### One whole iteration -/

theorem dataOk_execPoll {s t : State} (h : DataOk s) (he : execPoll s = .next t) : DataOk t := by
  obtain ⟨a, d, hlight, hbuzzer, rfl⟩ := execPoll_eq_next_iff.1 he
  have ha : DataOk a := by
    split at hlight
    · exact dataOk_execAdvance h hlight
    · exact hlight ▸ h
  have hd : DataOk d := by
    split at hbuzzer
    · exact hbuzzer ▸ ha
    · exact dataOk_execDispatch ha hbuzzer
  exact hd

/-- Settles O40: row by row, each operation or table word is a sequence of updates that keep `DataOk`. -/
theorem everyOperationKeepsTheData : Obligations.EveryOperationKeepsTheData := by
  intro i s t h
  revert i
  apply forall_instr
  case hreset => rintro ⟨⟩; exact dataOk_resetOf h.1
  case htick => rintro ⟨⟩; exact dataOk_tickBody h
  case hpoll => exact dataOk_execPoll h
  case hadvance => exact dataOk_execAdvance h
  case hdispatch => exact dataOk_execDispatch h
  case hnext => rintro ⟨⟩; exact dataOk_drawNext h
  case hstep => exact fun _ _ => dataOk_execStep h
  case hnote =>
    intro sym du he
    rw [exec_noteOf] at he
    exact dataOk_execNoteOf h he

end Sys2Proof.Machine
end

section
/-! The invariant of the closed block under each agent's turn. -/

namespace Sys2Proof.Machine

/-- What the sub-step at `p` does besides moving `MPH` on (44_main_loop.md R150). -/
def subStep (p : MainPhase) (s : State) : Result :=
  match p with
  | .boot | .p1 | .p2 => .next s
  | .a1 => .next (subA1 s)
  | .a2 => subA2 s
  | .a3 => subA3 s
  | .a4 => subA4 s
  | .a5 => .next (subA5 s)
  | .s1 => subS1 s
  | .s2 => subS2 s
  | .s3 => .next (subS3 s)
  | .s4 => subS4 s

/-- The sub-step after the one `MPH` names (44_main_loop.md R150). -/
def nextPhase (s : State) : MainPhase :=
  match s.mph with
  | .boot | .s4 => .p1
  | .p1 => if lightDue s then .a1 else .p2
  | .a1 => .a2
  | .a2 => .a3
  | .a3 => .a4
  | .a4 => .a5
  | .a5 => .p2
  | .p2 => if s.playing then .p1 else .s1
  | .s1 => .s2
  | .s2 => .s3
  | .s3 => .s4

/-- What a completed turn of the main context did: the sub-step, then the move to its successor. -/
theorem mainStep_eq_next_iff {s t : State} :
    mainStep s = .next t ↔ ∃ u, subStep s.mph s = .next u ∧ toPhase (nextPhase s) u = t := by
  cases hm : s.mph <;> simp [mainStep, hm, subStep, nextPhase, andThen_eq_next_iff]

/-! ### A sub-step -/

theorem dataOk_subStep {p : MainPhase} {s u : State} (h : DataOk s) (hu : subStep p s = .next u) : DataOk u := by
  cases p with
  | boot | p1 | p2 => cases hu; exact h
  | a1 => cases hu; exact dataOk_subA1 h
  | a2 => obtain ⟨w, -, rfl⟩ := subA2_eq_next_iff.1 hu; exact h
  | a3 => obtain ⟨w, -, rfl⟩ := subA3_eq_next_iff.1 hu; exact dataOk_setDeadline _ h
  | a4 => obtain ⟨len, hl, rfl⟩ := subA4_eq_next_iff.1 hu; exact dataOk_stepPatternCursor h hl
  | a5 => cases hu; exact h
  | s1 => exact dataOk_subS1 h hu
  | s2 =>
    obtain ⟨e, -, ⟨hsym, rfl⟩ | ⟨-, rfl⟩⟩ := subS2_eq_next_iff.1 hu
    · have htask := dataOk_writeTask (s.cfg.mem.noteVal[(noteSym e).toNat]) (noteDu e) h
      exact htask
    · exact h
  | s3 => cases hu; exact dataOk_goLive _ h
  | s4 => obtain ⟨len, hl, rfl⟩ := subS4_eq_next_iff.1 hu; exact dataOk_stepMelodyCursor h hl

/-- A sub-step leaves the timer and the events to come alone (60_exceptions.md R175). -/
theorem subStep_frame {p : MainPhase} {s u : State} (hu : subStep p s = .next u) :
    u.ien = s.ien ∧ u.tpend = s.tpend ∧ u.tarm = s.tarm ∧ u.sched = s.sched := by
  cases p with
  | boot | p1 | p2 | a1 | a5 | s3 => cases hu; simp
  | a2 => obtain ⟨w, -, rfl⟩ := subA2_eq_next_iff.1 hu; simp
  | a3 => obtain ⟨w, -, rfl⟩ := subA3_eq_next_iff.1 hu; simp
  | a4 => obtain ⟨len, -, rfl⟩ := subA4_eq_next_iff.1 hu; simp
  | s1 => obtain ⟨-, rfl⟩ | ⟨-, b, -, rfl⟩ := subS1_eq_next_iff.1 hu <;> simp
  | s2 => obtain ⟨e, -, ⟨-, rfl⟩ | ⟨-, rfl⟩⟩ := subS2_eq_next_iff.1 hu <;> simp
  | s4 => obtain ⟨len, -, rfl⟩ := subS4_eq_next_iff.1 hu; simp

/-! ### A turn of the main context -/

/-- Each position is entered from one sub-step, which puts in place what it asks: A1 and S1 select a table and A4 and S4 are
the last that read one, P2 lets only an idle buzzer through to S1, and S3 uses `hit` up. -/
theorem positionOk_nextPhase {p : MainPhase} {s u : State} (hm : s.mph = p) (h : PositionOk s)
    (hu : subStep p s = .next u) : PositionOk (toPhase (nextPhase s) u) := by
  obtain ⟨hpat, hmel, hidle, hhit⟩ := h
  have hmiss : s.mph ≠ .s3 → s.hit = false := fun hne => Bool.eq_false_iff.2 (mt hhit hne)
  rw [hm] at hpat hmel hidle hmiss
  cases p with
  | boot | a5 => cases hu; simp [PositionOk, nextPhase, hm, hmiss]
  | p1 =>
    cases hu
    by_cases hdue : lightDue s = true <;> simp [PositionOk, nextPhase, hm, hdue, hmiss]
  | a1 => cases hu; simp [PositionOk, nextPhase, hm, hmiss, subA1_psel_ne_none]
  | a2 =>
    obtain ⟨w, -, rfl⟩ := subA2_eq_next_iff.1 hu
    simp [PositionOk, nextPhase, hm, hmiss, hpat]
  | a3 =>
    obtain ⟨w, -, rfl⟩ := subA3_eq_next_iff.1 hu
    simp [PositionOk, nextPhase, hm, hmiss, hpat]
  | a4 =>
    obtain ⟨len, -, rfl⟩ := subA4_eq_next_iff.1 hu
    simp [PositionOk, nextPhase, hm, hmiss]
  | p2 =>
    cases hu
    cases hp : s.playing <;> simp [PositionOk, nextPhase, hm, hp, hmiss]
  | s1 =>
    have hsel := subS1_msel_ne_none hu
    obtain ⟨-, rfl⟩ | ⟨-, b, -, rfl⟩ := subS1_eq_next_iff.1 hu <;>
      simpa [PositionOk, nextPhase, hm, hmiss, hidle] using hsel
  | s2 =>
    obtain ⟨e, -, ⟨-, rfl⟩ | ⟨-, rfl⟩⟩ := subS2_eq_next_iff.1 hu <;> simp [PositionOk, nextPhase, hm, hmel, hidle]
  | s3 => cases hu; simp [PositionOk, nextPhase, hm, hmel]
  | s4 =>
    obtain ⟨len, -, rfl⟩ := subS4_eq_next_iff.1 hu
    simp [PositionOk, nextPhase, hm, hmiss]

theorem inv_mainStep {s t : State} (h : Inv s) (ht : mainStep s = .next t) : Inv t := by
  obtain ⟨hdata, hpos, htimer, hclosed⟩ := h
  obtain ⟨u, hu, rfl⟩ := mainStep_eq_next_iff.1 ht
  have hpos' := positionOk_nextPhase rfl hpos hu
  obtain ⟨hien, htpend, htarm, hsched⟩ := subStep_frame hu
  have hu' : DataOk u := dataOk_subStep hdata hu
  exact ⟨hu', hpos', by simpa [TimerOk, hien, htpend, htarm] using htimer, by simpa [Closed, hsched] using hclosed⟩

/-! ### The other turns -/

theorem inv_resetOf {c : Params} (h : c.wf = true) : Inv (State.resetOf c) :=
  ⟨dataOk_resetOf h, by simp [PositionOk, State.resetOf], ⟨rfl, rfl⟩, rfl⟩

/-- RESET keeps the events to come, and with them the closed schedule (log entry 20). -/
theorem inv_execReset {s t : State} (h : Inv s) (ht : execReset s = .next t) : Inv t := by
  obtain ⟨⟨hcfg, -⟩, -, -, hclosed⟩ := h
  obtain ⟨hdata, hpos, htimer, -⟩ := inv_resetOf hcfg
  cases ht
  exact ⟨hdata, hpos, htimer, hclosed⟩

theorem inv_fireTurn {s t : State} (h : Inv s) (ht : fireTurn s = .next t) : Inv t := by
  rcases fireTurn_eq_next_iff.1 ht with ⟨-, rfl⟩ | ⟨-, rfl⟩
  · obtain ⟨hdata, hpos, ⟨hien, -⟩, hclosed⟩ := h
    exact ⟨hdata, hpos, ⟨hien, rfl⟩, hclosed⟩
  · exact h

/-- A tick leaves `PLAYING = 0` and the main context's position alone, so no task comes alive before S3. -/
theorem positionOk_tickBody {s : State} (h : PositionOk s) : PositionOk (tickBody s) := by
  obtain ⟨hpat, hmel, hidle, hhit⟩ := h
  exact ⟨by simpa using hpat, by simpa using hmel,
    fun hm => tickBody_playing_of_idle (hidle (by simpa using hm)), by simpa using hhit⟩

/-- A taken tick is no longer pending, and the handler re-arms the timer (60_exceptions.md R166). -/
theorem inv_tickTurn {s t : State} (h : Inv s) (ht : tickTurn s = .next t) : Inv t := by
  rcases tickTurn_eq_next_iff.1 ht with ⟨-, -, rfl⟩ | ⟨-, rfl⟩
  · obtain ⟨hdata, hpos, -, hclosed⟩ := h
    have hdata' : DataOk (tickBody (interruptEntry s)) := dataOk_tickBody (s := interruptEntry s) hdata
    have hpos' : PositionOk (tickBody (interruptEntry s)) := positionOk_tickBody (s := interruptEntry s) hpos
    exact ⟨hdata', hpos', by simp [TimerOk], by simpa [Closed] using hclosed⟩
  · exact h

theorem inv_takeTurn {c : Choice} {s t : State} (h : Inv s) (ht : takeTurn c s = .next t) : Inv t := by
  cases c with
  | reset => exact inv_execReset h ht
  | fire => exact inv_fireTurn h ht
  | tick => exact inv_tickTurn h ht
  | main => exact inv_mainStep h ht

/-! ### A step -/

theorem inv_taken {s : State} (h : Inv s) : Inv (taken s) := by
  obtain ⟨hdata, hpos, htimer, hclosed⟩ := h
  cases hs : s.sched with
  | nil =>
    rw [taken_nil hs]
    exact ⟨hdata, hpos, htimer, hclosed⟩
  | cons e rest =>
    rw [taken_cons hs]
    rw [Closed, hs, List.all_cons, Bool.and_eq_true] at hclosed
    exact ⟨hdata, hpos, htimer, hclosed.2⟩

/-- Settles O39: a closed schedule holds no operation of a trace, so the step is a turn, and each agent's turn keeps the invariant. -/
theorem everyStepKeepsTheInvariant : Obligations.EveryStepKeepsTheInvariant := by
  intro s t h ht
  rcases step_cases ht with ⟨code, rest, i, hs, -, -⟩ | ⟨c, -, hturn⟩
  · obtain ⟨-, -, -, hclosed⟩ := h
    simp [Closed, hs, Event.isTurn] at hclosed
  · exact inv_takeTurn (inv_taken h) hturn

/-- Settles O3: every register is at rest after RESET, and the seed of an admitted configuration is not 0. -/
theorem invariantHoldsAtReset : Obligations.InvariantHoldsAtReset :=
  ⟨fun _ hc => inv_resetOf hc, rfl, inv_resetOf params_wf⟩

end Sys2Proof.Machine
end

section
/-! The generator moves only where a pick is made. -/

namespace Sys2Proof.Machine

theorem execStep_rng_msel {lines : BitVec 9} {mult : BitVec 7} {s t : State} (h : execStep lines mult s = .next t) :
    t.rng = s.rng ∧ t.msel = s.msel := by
  obtain ⟨len, -, rfl⟩ := execStep_eq_next_iff.1 h
  simp

/-- With a pattern selected ADVANCE makes no pick; it never touches the melody's selection. -/
theorem execAdvance_rng_msel {s t : State} (h : execAdvance s = .next t) :
    (s.psel ≠ selNone → t.rng = s.rng) ∧ t.msel = s.msel := by
  obtain ⟨w, -, hw⟩ := execAdvance_eq_next_iff.1 h
  obtain ⟨hrng, hmsel⟩ := execStep_rng_msel hw
  exact ⟨fun hsel => by rw [hrng, subA1_selected hsel], by simpa using hmsel⟩

theorem execNoteOf_rng {sym : BitVec 4} {du : BitVec 12} {s t : State} (h : execNoteOf sym du s = .next t) :
    t.rng = s.rng := by
  rw [execNoteOf_eq] at h
  by_cases hsym : sym.toNat ≤ 9
  · rw [if_pos hsym] at h
    obtain ⟨-, len, -, rfl⟩ := (noteHit_eq_next_iff hsym).1 h
    simp
  · rw [if_neg hsym] at h
    obtain ⟨-, len, -, rfl⟩ := noteMiss_eq_next_iff.1 h
    simp

/-- With a melody selected DISPATCH makes no pick. -/
theorem execDispatch_rng {s t : State} (h : execDispatch s = .next t) (hsel : s.msel ≠ selNone) : t.rng = s.rng := by
  obtain ⟨-, u, hu, e, -, hn⟩ := execDispatch_eq_next_iff.1 h
  rw [subS1_selected hsel] at hu
  cases hu
  exact execNoteOf_rng hn

/-- With both tables selected a whole iteration makes no pick. -/
theorem execPoll_rng {s t : State} (h : execPoll s = .next t) (hp : s.psel ≠ selNone) (hm : s.msel ≠ selNone) :
    t.rng = s.rng := by
  obtain ⟨a, d, hlight, hbuzzer, rfl⟩ := execPoll_eq_next_iff.1 h
  have ha : a.rng = s.rng ∧ a.msel = s.msel := by
    split at hlight
    · obtain ⟨hrng, hmsel⟩ := execAdvance_rng_msel hlight
      exact ⟨hrng hp, hmsel⟩
    · simp [hlight]
  have hd : d.rng = a.rng := by
    split at hbuzzer
    · rw [hbuzzer]
    · exact execDispatch_rng hbuzzer (ha.2 ▸ hm)
  exact hd.trans ha.1

/-- Settles O6: of the other operations only ADVANCE, DISPATCH and POLL hold a pick, and none is made with the tables selected. -/
theorem generatorMovesOnlyAtAPick : Obligations.GeneratorMovesOnlyAtAPick := by
  intro i s t
  revert i
  apply forall_instr
  case hreset => intro _; simp
  case htick => rintro ⟨⟩; simp
  case hpoll =>
    intro h
    by_cases hp : s.psel = selNone
    · simp [hp]
    · by_cases hm : s.msel = selNone
      · simp [hm]
      · exact .inl (execPoll_rng h hp hm)
  case hadvance =>
    intro h
    by_cases hp : s.psel = selNone
    · simp [hp]
    · exact .inl ((execAdvance_rng_msel h).1 hp)
  case hdispatch =>
    intro h
    by_cases hm : s.msel = selNone
    · simp [hm]
    · exact .inl (execDispatch_rng h hm)
  case hnext => intro _; simp
  case hstep => exact fun _ _ h => .inl (execStep_rng_msel h).1
  case hnote =>
    intro sym du h
    rw [exec_noteOf] at h
    exact .inl (execNoteOf_rng h)

end Sys2Proof.Machine
end

section
/-! The tables under a step: reads outside them are refused, and none is ever written. -/

namespace Sys2Proof.Machine

/-! ### Reads outside a table -/

theorem memRead_pattern_past {m : Memory} {p : Fin 3} {i : Nat} (h : m.pattern[p].length ≤ i) :
    memRead m ⟨.pattern, p.val, i⟩ = none := by
  simpa [memRead_pattern] using h

theorem memRead_melody_past {m : Memory} {p : Fin 2} {i : Nat} (h : m.melody[p].notes.length ≤ i) :
    memRead m ⟨.melody, p.val, i⟩ = none := by
  rw [memRead_melody, Vector.getElem?_eq_getElem p.isLt, Option.bind_some]
  exact List.getElem?_eq_none h

/-- ADVANCE reads the word under the cursor the pick leaves before it does anything else. -/
theorem execAdvance_refused {s : State} {a : TableAddr} (haddr : stepAddr (subA1 s) = a)
    (h : memRead s.cfg.mem a = none) : execAdvance s = .refused (.tableReadOutOfRange a) := by
  subst haddr
  exact readThen_none (by simpa using h)

/-- DISPATCH reads the entry under the cursor the pick leaves before it writes a task. -/
theorem execDispatch_refused {s u : State} {a : TableAddr} (hidle : s.playing = false) (hu : subS1 s = .next u)
    (haddr : noteAddr u = a) (h : memRead u.cfg.mem a = none) : execDispatch s = .refused (.tableReadOutOfRange a) := by
  subst haddr
  rw [execDispatch, whenIdle_idle hidle, hu, andThen_next]
  exact readThen_none h

/-! ### The lazy picks -/

/-- A left shift is a product and a right shift a division by a power of two (40_prng.md R100). -/
theorem xorshift_eq_generator (x : Word) : xorshift x = Claims.generator x := by
  have hmul : ∀ y : Word, y <<< 13 = y * 8192#32 ∧ y <<< 5 = y * 32#32 := fun y =>
    ⟨BitVec.shiftLeft_eq_mul_twoPow y 13, BitVec.shiftLeft_eq_mul_twoPow y 5⟩
  have hdiv : ∀ y : Word, y >>> 17 = y / 131072#32 := fun y =>
    BitVec.eq_of_toNat_eq (by simp [Nat.shiftRight_eq_div_pow])
  simp only [xorshift, Claims.generator, hmul, hdiv]

/-- A 2-bit selection holds every pick from at most four tables. -/
theorem pickOf_toNat (r : Word) {n : Nat} (h0 : 0 < n) (h : n ≤ 4) : (pickOf r n).toNat = r.toNat % n := by
  have := Nat.mod_lt r.toNat h0
  simp [pickOf]
  omega

theorem subA1_pick_psel {s : State} (h : s.psel = selNone) : (subA1 s).psel = pickOf (xorshift s.rng) 3 := by
  simp [subA1, h]

/-- A pick of a melody never stops: each of the two tables it picks from has a beat (42_tone_scheduler.md R121). -/
theorem subS1_pick {s : State} (h : s.msel = selNone) :
    ∃ b, subS1 s = .next { s with rng := xorshift s.rng, msel := pickOf (xorshift s.rng) 2, beat := b } := by
  have hlt : (pickOf (xorshift s.rng) 2).toNat < 2 := pickOf_lt _ 2 (by decide) (by decide)
  refine ⟨(s.cfg.mem.melody[(pickOf (xorshift s.rng) 2).toNat]).beat, subS1_eq_next_iff.2 (.inr ⟨h, _, ?_, rfl⟩)⟩
  simp [memRead_melodyBeat, hlt]

/-- Settles O24: whichever way the cursor's table was selected, the first table read of the operation has no element to give. -/
theorem readsOutsideATableAreRefused : Obligations.ReadsOutsideATableAreRefused := by
  refine ⟨fun s p hsel hpast => ?_, fun s p hnone hpick hpast => ?_, fun s m hidle hsel hpast => ?_,
    fun s m hidle hnone hpick hpast => ?_, fun s hidle htwo => ?_⟩
  · have hne : s.psel ≠ selNone := sel_ne_none_of_lt le_rfl (hsel ▸ p.isLt)
    exact execAdvance_refused (by rw [subA1_selected hne, stepAddr, hsel]) (memRead_pattern_past hpast)
  · have hsel : (subA1 s).psel.toNat = p.val := by
      rw [subA1_pick_psel hnone, pickOf_toNat _ (by decide) (by decide), xorshift_eq_generator, hpick]
    exact execAdvance_refused (by simp [stepAddr, hsel]) (memRead_pattern_past hpast)
  · have hne : s.msel ≠ selNone := sel_ne_none_of_lt (by decide) (hsel ▸ m.isLt)
    exact execDispatch_refused hidle (subS1_selected hne) (by rw [noteAddr, hsel]) (memRead_melody_past hpast)
  · obtain ⟨b, hu⟩ := subS1_pick hnone
    have hsel : (pickOf (xorshift s.rng) 2).toNat = m.val := by
      rw [pickOf_toNat _ (by decide) (by decide), xorshift_eq_generator, hpick]
    exact execDispatch_refused hidle hu (by rw [noteAddr, hsel]) (memRead_melody_past hpast)
  · have hne : s.msel ≠ selNone := by rw [htwo]; decide
    exact execDispatch_refused hidle (subS1_selected hne) (by rw [noteAddr, htwo]; rfl) (by simp [memRead_melody])

/-! ### No table is written -/

theorem execStep_cfg {lines : BitVec 9} {mult : BitVec 7} {s t : State} (h : execStep lines mult s = .next t) :
    t.cfg = s.cfg := by
  obtain ⟨len, -, rfl⟩ := execStep_eq_next_iff.1 h
  simp

theorem execAdvance_cfg {s t : State} (h : execAdvance s = .next t) : t.cfg = s.cfg := by
  obtain ⟨w, -, hw⟩ := execAdvance_eq_next_iff.1 h
  simpa using execStep_cfg hw

theorem subS1_cfg {s t : State} (h : subS1 s = .next t) : t.cfg = s.cfg := by
  obtain ⟨-, rfl⟩ | ⟨-, b, -, rfl⟩ := subS1_eq_next_iff.1 h <;> rfl

theorem execNoteOf_cfg {sym : BitVec 4} {du : BitVec 12} {s t : State} (h : execNoteOf sym du s = .next t) :
    t.cfg = s.cfg := by
  rw [execNoteOf_eq] at h
  by_cases hsym : sym.toNat ≤ 9
  · rw [if_pos hsym] at h
    obtain ⟨-, len, -, rfl⟩ := (noteHit_eq_next_iff hsym).1 h
    simp
  · rw [if_neg hsym] at h
    obtain ⟨-, len, -, rfl⟩ := noteMiss_eq_next_iff.1 h
    simp

theorem execDispatch_cfg {s t : State} (h : execDispatch s = .next t) : t.cfg = s.cfg := by
  obtain ⟨-, u, hu, e, -, hn⟩ := execDispatch_eq_next_iff.1 h
  exact (execNoteOf_cfg hn).trans (subS1_cfg hu)

theorem execPoll_cfg {s t : State} (h : execPoll s = .next t) : t.cfg = s.cfg := by
  obtain ⟨a, d, hlight, hbuzzer, rfl⟩ := execPoll_eq_next_iff.1 h
  have ha : a.cfg = s.cfg := by
    split at hlight
    · exact execAdvance_cfg hlight
    · rw [hlight]
  have hd : d.cfg = a.cfg := by
    split at hbuzzer
    · rw [hbuzzer]
    · exact execDispatch_cfg hbuzzer
  exact hd.trans ha

theorem exec_cfg {i : Instr} {s t : State} : exec i s = .next t → t.cfg = s.cfg := by
  revert i
  apply forall_instr
  case hreset | hnext => rintro ⟨⟩; rfl
  case htick => rintro ⟨⟩; simp
  case hpoll => exact execPoll_cfg
  case hadvance => exact execAdvance_cfg
  case hdispatch => exact execDispatch_cfg
  case hstep => exact fun _ _ => execStep_cfg
  case hnote =>
    intro sym du h
    rw [exec_noteOf] at h
    exact execNoteOf_cfg h

/-- A sub-step writes no table; of the sub-steps only S3 writes `PLAYING` and only S2 the thresholds (20_memory.md R60, R70). -/
theorem subStep_cfg_and_handoff {p : MainPhase} {s u : State} (hu : subStep p s = .next u) :
    u.cfg = s.cfg ∧ u.playing = (s.playing || (decide (p = .s3) && s.hit)) ∧
      (p ≠ .s2 → u.tHp = s.tHp ∧ u.tAd = s.tAd ∧ u.tPs = s.tPs) := by
  cases p with
  | boot | p1 | p2 | a1 | a5 | s3 => cases hu; simp
  | a2 => obtain ⟨w, -, rfl⟩ := subA2_eq_next_iff.1 hu; simp
  | a3 => obtain ⟨w, -, rfl⟩ := subA3_eq_next_iff.1 hu; simp
  | a4 => obtain ⟨len, -, rfl⟩ := subA4_eq_next_iff.1 hu; simp
  | s1 => obtain ⟨-, rfl⟩ | ⟨-, b, -, rfl⟩ := subS1_eq_next_iff.1 hu <;> simp
  | s2 => obtain ⟨e, -, ⟨-, rfl⟩ | ⟨-, rfl⟩⟩ := subS2_eq_next_iff.1 hu <;> simp
  | s4 => obtain ⟨len, -, rfl⟩ := subS4_eq_next_iff.1 hu; simp

theorem takeTurn_cfg {c : Choice} {s t : State} (h : takeTurn c s = .next t) : t.cfg = s.cfg := by
  cases c with
  | reset => cases h; rfl
  | fire => obtain ⟨-, rfl⟩ | ⟨-, rfl⟩ := fireTurn_eq_next_iff.1 h <;> simp
  | tick => obtain ⟨-, -, rfl⟩ | ⟨-, rfl⟩ := tickTurn_eq_next_iff.1 h <;> simp
  | main =>
    obtain ⟨u, hu, rfl⟩ := mainStep_eq_next_iff.1 h
    obtain ⟨hcfg, -, -⟩ := subStep_cfg_and_handoff hu
    exact hcfg

/-- Settles O42: each operation, and each agent's turn, is a sequence of updates that write no table. -/
theorem noStepWritesATable : Obligations.NoStepWritesATable := by
  intro s t h
  have hcfg : t.cfg = s.cfg := by
    rcases step_cases h with ⟨_, _, i, -, -, hexec⟩ | ⟨c, -, hturn⟩
    · simpa using exec_cfg hexec
    · simpa using takeTurn_cfg hturn
  exact ⟨hcfg, fun hwf => hcfg ▸ hwf⟩

end Sys2Proof.Machine
end

section
/-! What the main context and the tick share (20_memory.md R70, R71): who writes `PLAYING` and the thresholds, and the clear of
`LTICK`. -/

namespace Sys2Proof.Machine

/-- Settles O30: A5 clears `LTICK` whatever it held. -/
theorem ticksBeforeTheClearAreLost : Obligations.TicksBeforeTheClearAreLost := by
  intro s v h
  simp only [mainStep, h]
  rfl

/-- Under the invariant the schedule holds no operation of a trace, so a step is the turn of whoever moves. -/
theorem step_eq_takeTurn {s : State} (h : Inv s) : ∃ c, mover s = some c ∧ step s = takeTurn c (taken s) := by
  obtain ⟨-, -, -, hclosed⟩ := h
  match hs : s.sched with
  | .op code :: rest => simp [Closed, hs, Event.isTurn] at hclosed
  | .turn c :: rest => exact ⟨c, by simp [mover, hs], by simp [step, hs, taken_cons hs]⟩
  | [] => exact ⟨Config.freeChoice s.draw, by simp [mover, hs], by simp [step, hs, taken_nil hs]⟩

/-- Of the ticks only the one that ends the post-silence clears `PLAYING` (43_tick_playback.md R136). -/
theorem tickBody_clears_playing {s : State} (hp : s.playing = true) (h : (tickBody s).playing = false) :
    s.insil = true ∧ s.tPs < s.scnt + 1 := by
  cases hi : s.insil with
  | false =>
    rw [tickBody_active hp hi] at h
    simp [hp] at h
  | true =>
    refine ⟨rfl, by_contra fun hstay => ?_⟩
    rw [tickBody_postSilence hp hi, postSilenceTick_stay (s := countTick s) hstay] at h
    simp [hp] at h

/-- The three writers of the handoff, for a turn: `PLAYING` goes up at S3, comes down at the ending tick, and the thresholds move
at S2 (20_memory.md R70). -/
abbrev Handoff (c : Choice) (s t : State) : Prop :=
  (s.playing = false → t.playing = true → c = .main ∧ s.mph = .s3 ∧ s.hit = true) ∧
    (s.playing = true → t.playing = false → c = .tick ∧ s.insil = true ∧ s.tPs < s.scnt + 1) ∧
    ((t.tHp ≠ s.tHp ∨ t.tAd ≠ s.tAd ∨ t.tPs ≠ s.tPs) → s.playing = false ∧ c = .main ∧ s.mph = .s2)

/-- A turn that leaves `PLAYING` and the thresholds alone writes nothing of the handoff. -/
theorem handoff_of_frame {c : Choice} {s t : State} (hp : t.playing = s.playing)
    (htask : t.tHp = s.tHp ∧ t.tAd = s.tAd ∧ t.tPs = s.tPs) : Handoff c s t := by
  obtain ⟨htHp, htAd, htPs⟩ := htask
  refine ⟨fun hs ht => ?_, fun hs ht => ?_, fun hne => by simp [htHp, htAd, htPs] at hne⟩ <;> simp [hp, hs] at ht

theorem handoff_tickTurn {s t : State} (h : tickTurn s = .next t) : Handoff .tick s t := by
  rcases tickTurn_eq_next_iff.1 h with ⟨-, -, rfl⟩ | ⟨-, rfl⟩
  · refine ⟨fun hp hp' => ?_, fun hp hp' => ?_, by simp⟩
    · have hstays := tickBody_playing_of_idle (s := interruptEntry s) hp
      simp [hstays] at hp'
    · exact ⟨rfl, tickBody_clears_playing (s := interruptEntry s) hp hp'⟩
  · exact handoff_of_frame rfl ⟨rfl, rfl, rfl⟩

theorem handoff_mainStep {s t : State} (hpos : PositionOk s) (h : mainStep s = .next t) : Handoff .main s t := by
  obtain ⟨-, -, hidle, -⟩ := hpos
  obtain ⟨u, hu, rfl⟩ := mainStep_eq_next_iff.1 h
  obtain ⟨-, hplay, htask⟩ := subStep_cfg_and_handoff hu
  refine ⟨fun hp hp' => ?_, fun hp hp' => ?_, fun hne => ?_⟩
  · have hwrite : (decide (s.mph = .s3) && s.hit) = true := by simpa [hplay, hp] using hp'
    simpa using hwrite
  · simp [hplay, hp] at hp'
  · have hs2 : s.mph = .s2 := by_contra fun hne2 => by simp [htask hne2] at hne
    exact ⟨hidle (.inr (.inl hs2)), rfl, hs2⟩

theorem handoff_takeTurn {c : Choice} {s t : State} (hpos : PositionOk s) (hc : c ≠ .reset)
    (h : takeTurn c s = .next t) : Handoff c s t := by
  cases c with
  | reset => exact absurd rfl hc
  | fire => obtain ⟨-, rfl⟩ | ⟨-, rfl⟩ := fireTurn_eq_next_iff.1 h <;> exact handoff_of_frame rfl ⟨rfl, rfl, rfl⟩
  | tick => exact handoff_tickTurn h
  | main => exact handoff_mainStep hpos h

/-- Settles O38: a closed step is a turn, and of the turns S3, the ending tick and S2 are the three writers. -/
theorem handoffGateHasOneWriterEachWay : Obligations.HandoffGateHasOneWriterEachWay := by
  intro s t hinv ht hreset
  obtain ⟨c, hc, hstep⟩ := step_eq_takeTurn hinv
  obtain ⟨-, hpos, -, -⟩ := inv_taken hinv
  rw [hstep] at ht
  rw [hc, Ne, Option.some.injEq] at hreset
  simpa [Handoff, hc] using handoff_takeTurn hpos hreset ht

end Sys2Proof.Machine
end

section
/-! No run of the closed block stops: under the invariant every turn has a next state. -/

namespace Sys2Proof.Machine

/-- A selected pattern has a length, and the word under a cursor inside it can be read. -/
theorem pattern_readable {s : State} (h : PatternCursorOk s) (hsel : s.psel ≠ selNone) :
    ∃ len w, patternLength s.cfg.mem s.psel = some len ∧ memRead s.cfg.mem (stepAddr s) = some w := by
  obtain ⟨-, -, hin⟩ := h
  obtain ⟨-, hlt⟩ := hin hsel
  have hp : s.psel.toNat < 3 := (selNone_or_pattern s.psel).resolve_left hsel
  have hlen := patternLength_selected s.cfg.mem s.psel hp
  rw [hlen, Option.getD_some] at hlt
  exact ⟨_, (s.cfg.mem.pattern[s.psel.toNat])[s.pidx.toNat], hlen, by simp [stepAddr, memRead_pattern, hp, hlt]⟩

/-- A selected melody has a length, and the entry under a cursor inside it can be read. -/
theorem melody_readable {s : State} (h : MelodyCursorOk s) (hsel : s.msel ≠ selNone) :
    ∃ len e, melodyLength s.cfg.mem s.msel = some len ∧ memRead s.cfg.mem (noteAddr s) = some e := by
  obtain ⟨htwo, -, hin⟩ := h
  obtain ⟨hlt, -⟩ := hin hsel
  have hp : s.msel.toNat < 2 := ((selNone_or_melody s.msel).resolve_left hsel).resolve_left htwo
  have hlen := melodyLength_selected s.cfg.mem s.msel hp
  rw [hlen, Option.getD_some] at hlt
  exact ⟨_, (s.cfg.mem.melody[s.msel.toNat]).notes[s.midx.toNat], hlen, by simp [noteAddr, memRead_melody, hp, hlt]⟩

theorem subS1_completes (s : State) : ∃ u, subS1 s = .next u := by
  by_cases h : s.msel = selNone
  · obtain ⟨b, hu⟩ := subS1_pick h
    exact ⟨_, hu⟩
  · exact ⟨s, subS1_selected h⟩

/-- On an entry that can be read S2 completes, hit or miss. -/
theorem subS2_completes {s : State} {e : Elem} (h : memRead s.cfg.mem (noteAddr s) = some e) : ∃ u, subS2 s = .next u := by
  by_cases hsym : (noteSym e).toNat ≤ 9
  · exact ⟨_, subS2_eq_next_iff.2 ⟨e, h, .inl ⟨hsym, rfl⟩⟩⟩
  · exact ⟨_, subS2_eq_next_iff.2 ⟨e, h, .inr ⟨hsym, rfl⟩⟩⟩

/-- Where a sub-step reads a table, the main context's position says that it is selected, and the cursor is inside it. -/
theorem subStep_completes {s : State} (hpat : PatternCursorOk s) (hmel : MelodyCursorOk s) (hpos : PositionOk s) :
    ∃ u, subStep s.mph s = .next u := by
  obtain ⟨hpsel, hmsel, -, -⟩ := hpos
  cases hm : s.mph with
  | boot | p1 | p2 | a1 | a5 | s3 => exact ⟨_, rfl⟩
  | a2 =>
    obtain ⟨len, w, -, hw⟩ := pattern_readable hpat (hpsel (.inl hm))
    exact ⟨_, subA2_eq_next_iff.2 ⟨w, hw, rfl⟩⟩
  | a3 =>
    obtain ⟨len, w, -, hw⟩ := pattern_readable hpat (hpsel (.inr (.inl hm)))
    exact ⟨_, subA3_eq_next_iff.2 ⟨w, hw, rfl⟩⟩
  | a4 =>
    obtain ⟨len, w, hlen, -⟩ := pattern_readable hpat (hpsel (.inr (.inr hm)))
    exact ⟨_, subA4_eq_next_iff.2 ⟨len, hlen, rfl⟩⟩
  | s1 => exact subS1_completes s
  | s2 =>
    obtain ⟨len, e, -, he⟩ := melody_readable hmel (hmsel (.inl hm))
    exact subS2_completes he
  | s4 =>
    obtain ⟨len, e, hlen, -⟩ := melody_readable hmel (hmsel (.inr (.inr hm)))
    exact ⟨_, subS4_eq_next_iff.2 ⟨len, hlen, rfl⟩⟩

theorem mainStep_completes {s : State} (h : Inv s) : ∃ t, mainStep s = .next t := by
  obtain ⟨⟨-, -, hpat, hmel, -⟩, hpos, -, -⟩ := h
  obtain ⟨u, hu⟩ := subStep_completes hpat hmel hpos
  exact ⟨_, mainStep_eq_next_iff.2 ⟨u, hu, rfl⟩⟩

theorem fireTurn_completes (s : State) : ∃ t, fireTurn s = .next t := by
  cases h : s.tarm with
  | false => exact ⟨s, fireTurn_eq_next_iff.2 (.inr ⟨h, rfl⟩)⟩
  | true => exact ⟨_, fireTurn_eq_next_iff.2 (.inl ⟨h, rfl⟩)⟩

theorem tickTurn_completes {s : State} (hien : s.ien = true) : ∃ t, tickTurn s = .next t := by
  cases h : s.tpend with
  | false => exact ⟨s, tickTurn_eq_next_iff.2 (.inr ⟨.inl h, rfl⟩)⟩
  | true => exact ⟨_, tickTurn_eq_next_iff.2 (.inl ⟨h, hien, rfl⟩)⟩

theorem takeTurn_completes {s : State} (c : Choice) (h : Inv s) : ∃ t, takeTurn c s = .next t := by
  cases c with
  | reset => exact ⟨_, rfl⟩
  | fire => exact fireTurn_completes s
  | tick =>
    obtain ⟨-, -, ⟨hien, -⟩, -⟩ := h
    exact tickTurn_completes hien
  | main => exact mainStep_completes h

/-- Progress: a state that meets the invariant has a next state. -/
theorem step_completes {s : State} (h : Inv s) : ∃ t, step s = .next t := by
  obtain ⟨c, -, hstep⟩ := step_eq_takeTurn h
  rw [hstep]
  exact takeTurn_completes c (inv_taken h)

theorem inv_of_reaches {s t : State} (h : Inv s) (hr : Reaches s t) : Inv t := by
  induction hr with
  | here => exact h
  | next _ hstep ih => exact everyStepKeepsTheInvariant _ _ ih hstep

/-- Settles O41: every reachable state meets the invariant (O39), and such a state has a next one. -/
theorem closedBlockNeverStops : Obligations.ClosedBlockNeverStops :=
  fun _ h _ hr => step_completes (inv_of_reaches h hr)

end Sys2Proof.Machine
end

section
/-! Decoding and encoding are inverse to each other, and an instruction's word selects its own row of the opcode table. -/

namespace Sys2Proof.Machine

/-! ### An OP3 code in its byte -/

theorem decodeOp_eq_none_iff (c : BitVec 3) : decodeOp c = none ↔ 6 ≤ c.toNat := by
  revert c
  decide

/-- A code's byte holds the code in its low three bits and zeros above (log entry 15). -/
theorem decodeBytes_op3 {c : BitVec 3} {i : Instr} (rest : List Byte) (h : decodeOp c = some i) :
    decodeBytes .op3 (c.setWidth 8 :: rest) = .ok (i, rest) := by
  have hhigh : ∀ c : BitVec 3, (c.setWidth 8).extractLsb' 3 5 = 0#5 := by decide
  have hlow : ∀ c : BitVec 3, (c.setWidth 8).extractLsb' 0 3 = c := by decide
  simp [decodeBytes, hhigh, hlow, h]

theorem encodeWord_of_decodeOp {c : BitVec 3} {i : Instr} (h : decodeOp c = some i) : encodeWord i = c.setWidth 16 := by
  have hall : ∀ c : BitVec 3, (decodeOp c).all fun i => encodeWord i = c.setWidth 16 := by decide
  simpa [h] using hall c

/-! ### A table word in its two bytes -/

theorem decodeBytes_step16 (w : Elem) (rest : List Byte) :
    decodeBytes .step16 (elemBytes w ++ rest) = .ok (decodeStep w, rest) := by
  simp [elemBytes, decodeBytes]

theorem decodeBytes_note16 (e : Elem) (rest : List Byte) :
    decodeBytes .note16 (elemBytes e ++ rest) = .ok (decodeNote e, rest) := by
  simp [elemBytes, decodeBytes]

theorem decodeStep_append (mult : BitVec 7) (lines : BitVec 9) : decodeStep (mult ++ lines) = .step lines mult := by
  simp [decodeStep]

theorem decodeNote_append (du : BitVec 12) (sym : BitVec 4) : decodeNote (du ++ sym) = noteOf sym du := by
  simp [decodeNote]

theorem encode_noteOf (sym : BitVec 4) (du : BitVec 12) : encode (noteOf sym du) = elemBytes (du ++ sym) := by
  simp [encode, format_noteOf, encodeWord_noteOf]

/-- The two fields of a STEP word are all of it (30_encoding.md R81). -/
theorem stepMult_append_stepLines (w : Elem) : stepMult w ++ stepLines w = w :=
  (BitVec.extractLsb'_append_extractLsb'_eq_extractLsb' (x := w) rfl).trans BitVec.extractLsb'_eq_self

/-- The two fields of a NOTE entry are all of it (30_encoding.md R82). -/
theorem noteDu_append_noteSym (e : Elem) : noteDu e ++ noteSym e = e :=
  (BitVec.extractLsb'_append_extractLsb'_eq_extractLsb' (x := e) rfl).trans BitVec.extractLsb'_eq_self

/-- Settles O44: each format's decoder undoes the layout of its bytes and then the fields of its word. -/
theorem decodeOfEncodeIsTheInstruction : Obligations.DecodeOfEncodeIsTheInstruction := by
  intro i rest
  revert i
  apply forall_instr
  case hreset => exact decodeBytes_op3 (c := 0b000) rest rfl
  case htick => exact decodeBytes_op3 (c := 0b001) rest rfl
  case hpoll => exact decodeBytes_op3 (c := 0b010) rest rfl
  case hadvance => exact decodeBytes_op3 (c := 0b011) rest rfl
  case hdispatch => exact decodeBytes_op3 (c := 0b100) rest rfl
  case hnext => exact decodeBytes_op3 (c := 0b101) rest rfl
  case hstep =>
    intro lines mult
    exact (decodeBytes_step16 (mult ++ lines) rest).trans (by rw [decodeStep_append])
  case hnote =>
    intro sym du
    rw [format_noteOf, encode_noteOf, decodeBytes_note16, decodeNote_append]

/-- Settles O45: a table word is its two fields put together, and an operation's word is the code it was decoded from. -/
theorem encodeOfDecodeIsTheWord : Obligations.EncodeOfDecodeIsTheWord := by
  refine ⟨stepMult_append_stepLines, fun e => ?_, fun _ _ => encodeWord_of_decodeOp⟩
  rw [decodeNote, encodeWord_noteOf, noteDu_append_noteSym]

/-! ### The rows of the opcode table -/

/-- Every instruction's row stands in the table, and its word selects it (30_encoding.md R95). -/
theorem exists_row : ∀ i, Laws.RowOf.Statement i
  | .reset => Laws.RowOf.reset
  | .tick => Laws.RowOf.tick
  | .poll => Laws.RowOf.poll
  | .advance => Laws.RowOf.advance
  | .dispatch => Laws.RowOf.dispatch
  | .next => Laws.RowOf.next
  | .step lines mult => Laws.RowOf.step lines mult
  | .noteRest du => Laws.RowOf.noteRest du
  | .noteS1 du => Laws.RowOf.noteS1 du
  | .noteS2 du => Laws.RowOf.noteS2 du
  | .noteS3 du => Laws.RowOf.noteS3 du
  | .noteS4 du => Laws.RowOf.noteS4 du
  | .noteS5 du => Laws.RowOf.noteS5 du
  | .noteS6 du => Laws.RowOf.noteS6 du
  | .noteS7 du => Laws.RowOf.noteS7 du
  | .noteS8 du => Laws.RowOf.noteS8 du
  | .noteS9 du => Laws.RowOf.noteS9 du
  | .noteX10 du => Laws.RowOf.noteX10 du
  | .noteX11 du => Laws.RowOf.noteX11 du
  | .noteX12 du => Laws.RowOf.noteX12 du
  | .noteX13 du => Laws.RowOf.noteX13 du
  | .noteX14 du => Laws.RowOf.noteX14 du
  | .noteX15 du => Laws.RowOf.noteX15 du

theorem row_eq_of_mnemonic_eq : ∀ r ∈ opcodeTable, ∀ r' ∈ opcodeTable, r.mnemonic = r'.mnemonic → r = r' := by
  decide

theorem row_mask_eq_of_format_eq :
    ∀ r ∈ opcodeTable, ∀ r' ∈ opcodeTable, r.format = r'.format → r.mask = r'.mask := by
  decide

theorem row_eq_of_matchBits_eq :
    ∀ r ∈ opcodeTable, ∀ r' ∈ opcodeTable, r.format = r'.format → r.matchBits = r'.matchBits → r = r' := by
  decide

theorem selectedBy_iff {r : TableRow} {f : Format} {w : Elem} :
    r.selectedBy f w = true ↔ r.format = f ∧ w &&& r.mask = r.matchBits := by
  simp [TableRow.selectedBy]

/-- The rows of a format read a word through one mask and differ in what they match, so a word selects at most one. -/
theorem row_eq_of_selectedBy {r r' : TableRow} {f : Format} {w : Elem} (hr : r ∈ opcodeTable) (hr' : r' ∈ opcodeTable)
    (h : r.selectedBy f w = true) (h' : r'.selectedBy f w = true) : r = r' := by
  obtain ⟨hf, hw⟩ := selectedBy_iff.1 h
  obtain ⟨hf', hw'⟩ := selectedBy_iff.1 h'
  have hff : r.format = r'.format := hf.trans hf'.symm
  refine row_eq_of_matchBits_eq r hr r' hr' hff ?_
  rw [← hw, ← hw', row_mask_eq_of_format_eq r hr r' hr' hff]

/-- Settles O46: the instruction's own row is selected, no other row of the format is, and no other row bears its mnemonic. -/
theorem wordsSelectOnlyTheirOwnRow : Obligations.WordsSelectOnlyTheirOwnRow := by
  intro i r hr
  obtain ⟨own, hown, hname, hsel⟩ := exists_row i
  constructor
  · intro h
    rw [row_eq_of_selectedBy hr hown h hsel, hname]
  · intro h
    rwa [row_eq_of_mnemonic_eq r hr own hown (h.trans hname.symm)]

/-- Settles O47: each word is closed, and decoding it is a computation. -/
theorem writtenOutWordsDecode : Obligations.WrittenOutWordsDecode := by
  unfold Obligations.WrittenOutWordsDecode
  decide

end Sys2Proof.Machine
end

section
/-! The step runs what the decoder reads: a trace's OP3 code, and a table word placed for it. -/

namespace Sys2Proof.Machine

/-- Settles O49: the step takes the event and runs what its code decodes to. -/
theorem stepRunsTheDecodedOperation : Obligations.StepRunsTheDecodedOperation := by
  intro s c i rest hs hi
  simp [step, hs, runOp, hi]

/-- Settles O48: the decoder refuses exactly the two reserved codes, and the step what the decoder refuses. -/
theorem reservedCodesAndNoOthersAreRefused : Obligations.ReservedCodesAndNoOthersAreRefused := by
  refine fun c => ⟨decodeOp_eq_none_iff c, fun s rest hs hc => ?_⟩
  have hnone : decodeOp c = none := (decodeOp_eq_none_iff c).2 hc
  simp [step, hs, runOp, hnone]

/-- Whatever operand words are placed with it, the code itself is put before the outside events. -/
theorem placeOp_sched (code : BitVec 3) (s : State) : (placeOp code s).sched = .op code :: s.sched := by
  unfold placeOp
  split_ifs <;> rfl

theorem step_placeOp {code : BitVec 3} {i : Instr} (s : State) (h : decodeOp code = some i) :
    step (placeOp code s) = exec i { placeOp code s with sched := s.sched } :=
  stepRunsTheDecodedOperation _ _ _ _ (placeOp_sched code s) h

/-- With no live task and a melody selected, DISPATCH is the entry under the cursor (42_tone_scheduler.md R120). -/
theorem execDispatch_eq_exec_decodeNote {s : State} {e : Elem} (hidle : s.playing = false) (hsel : s.msel ≠ selNone)
    (he : memRead s.cfg.mem (noteAddr s) = some e) : execDispatch s = exec (decodeNote e) s := by
  rw [execDispatch, whenIdle_idle hidle, subS1_selected hsel, andThen_next, runNoteUnderCursor, readThen_some he,
    exec_decodeNote]

/-- A placed NOTE entry is the one the melody cursor names. -/
theorem memRead_placeNote (e : Elem) (s : State) : memRead (placeNote e s).cfg.mem (noteAddr (placeNote e s)) = some e := by
  simp [placeNote, placeNoteWord, pushOp, noteAddr, memRead_melody]

theorem step_placeNote (e : Elem) (s : State) :
    step (placeNote e s) = exec (decodeNote e) { placeNote e s with sched := s.sched } := by
  have hstep : step (placeNote e s) = execDispatch { placeNote e s with sched := s.sched } :=
    stepRunsTheDecodedOperation _ 0b100 .dispatch _ rfl rfl
  rw [hstep]
  exact execDispatch_eq_exec_decodeNote rfl (show (0 : Sel) ≠ selNone by decide) (memRead_placeNote e s)

/-- Settles O51: a row of eight bits is an OP3 code placed as the next event, one of sixteen a NOTE entry for a DISPATCH. -/
theorem placedWordIsWhatRunsNext : Obligations.PlacedWordIsWhatRunsNext := by
  intro s nbits w i hbits hi
  rcases hbits with rfl | rfl
  · have hop : decodeOp (BitVec.ofNat 3 w) = some i := by
      by_cases hw : w < 8
      · simpa [decodeTableWord, hw] using hi
      · simp [decodeTableWord, hw] at hi
    exact step_placeOp s hop
  · have hnote : decodeNote (BitVec.ofNat 16 w) = i := by
      by_cases hw : w < 65536
      · simpa [decodeTableWord, hw] using hi
      · simp [decodeTableWord, hw] at hi
    rw [← hnote]
    exact step_placeNote _ s

end Sys2Proof.Machine
end

section
/-! What a STEP word does to the lines and the deadline, bit by bit of the raw word. -/

namespace Sys2Proof.Machine

theorem stepLines_getLsbD (w : Elem) (i : Fin 9) : (stepLines w).getLsbD i.val = w.getLsbD i.val := by
  simp [stepLines]

theorem stepMult_toNat (w : Elem) : (stepMult w).toNat = w.toNat / 512 := by
  have := w.isLt
  simp only [stepMult, BitVec.extractLsb'_toNat, Nat.shiftRight_eq_div_pow]
  omega

/-- A completed STEP leaves its lines and its deadline behind, wherever the cursor went (41_light_sequencer.md R112, R113). -/
theorem execStep_led_deadline {lines : BitVec 9} {mult : BitVec 7} {s t : State} (h : execStep lines mult s = .next t) :
    t.led = lines ∧ t.deadline = deadlineOf mult := by
  obtain ⟨len, -, rfl⟩ := execStep_eq_next_iff.1 h
  simp

/-- Settles O15: the lines are bits 8:0 and the multiplier bits 15:9 of the word, and no multiplier wraps the deadline. -/
theorem emittedLinesFollowTheWord : Obligations.EmittedLinesFollowTheWord := by
  intro s t w h
  obtain ⟨hled, hdeadline⟩ := execStep_led_deadline h
  refine ⟨fun i => ?_, ?_⟩
  · rw [State.line, hled, stepLines_getLsbD]
  · rw [hdeadline, deadlineOf_toNat, stepMult_toNat]

end Sys2Proof.Machine
end

section
/-! The serialised tables read back, whatever bytes follow them. -/

namespace Sys2Proof.Machine

theorem loadElem_elemBytes (w : Elem) (rest : List Byte) : loadElem (elemBytes w ++ rest) = some (w, rest) := by
  simp [elemBytes, loadElem]

theorem loadElems_flatMap_elemBytes (words : List Elem) (rest : List Byte) :
    loadElems words.length (words.flatMap elemBytes ++ rest) = some (words, rest) := by
  induction words with
  | nil => rfl
  | cons w ws ih =>
    rw [List.flatMap_cons, List.append_assoc, List.length_cons, loadElems, loadElem_elemBytes]
    simp [ih]

/-- The length word holds every length below 65536, so as many words are read as were written. -/
theorem loadPattern_patternBytes {words : List Elem} (rest : List Byte) (h : words.length < 65536) :
    loadPattern (patternBytes words ++ rest) = some (words, rest) := by
  have hlen : (BitVec.ofNat 16 words.length).toNat = words.length := by
    rw [BitVec.toNat_ofNat, Nat.mod_eq_of_lt h]
  rw [patternBytes, List.append_assoc, loadPattern, loadElem_elemBytes]
  simp only [Option.bind_some, hlen, loadElems_flatMap_elemBytes]

theorem loadMelody_melodyBytes {m : Melody} (rest : List Byte) (h : m.notes.length < 65536) :
    loadMelody (melodyBytes m ++ rest) = some (m, rest) := by
  rw [melodyBytes, List.append_assoc, loadMelody, loadElem_elemBytes]
  simp [loadPattern_patternBytes rest h]

/-- Settles O52: a pattern is its length and its words one after the other, a melody its beat before such a list. -/
theorem serialisedTablesReadBack : Obligations.SerialisedTablesReadBack :=
  ⟨fun _ rest h => loadPattern_patternBytes rest h, fun _ rest h => loadMelody_melodyBytes rest h⟩

end Sys2Proof.Machine
end

section
/-! NEXT and the generator under a step (40_prng.md R100, R101). -/

namespace Sys2Proof.Machine

/-! ### NEXT -/

/-- Settles O4: NEXT stores the generator's function of `RNG`, whose shifts are products and a division. -/
theorem nextStoresTheMixedValue : Obligations.NextStoresTheMixedValue := by
  intro s
  rw [← xorshift_eq_generator]
  rfl

/-! ### The generator's function is linear, so it is injective -/

theorem xor_shiftLeft_xor (x y : Word) (n : Nat) :
    (x ^^^ y) ^^^ ((x ^^^ y) <<< n) = (x ^^^ (x <<< n)) ^^^ (y ^^^ (y <<< n)) := by
  rw [BitVec.shiftLeft_xor_distrib]
  ac_rfl

theorem xor_ushiftRight_xor (x y : Word) (n : Nat) :
    (x ^^^ y) ^^^ ((x ^^^ y) >>> n) = (x ^^^ (x >>> n)) ^^^ (y ^^^ (y >>> n)) := by
  rw [BitVec.ushiftRight_xor_distrib]
  ac_rfl

/-- Each of the three stages respects exclusive or, and so does the function they make up (40_prng.md R100). -/
theorem xorshift_xor (x y : Word) : xorshift (x ^^^ y) = xorshift x ^^^ xorshift y := by
  simp only [xorshift, xor_shiftLeft_xor, xor_ushiftRight_xor]

theorem xorshift_eq_zero_iff (x : Word) : xorshift x = 0 ↔ x = 0 :=
  ⟨fun h => by_contra fun hx => xorshift_ne_zero hx h, fun h => by rw [h]; rfl⟩

/-- Two words of one image differ by a word that maps to 0. -/
theorem xorshift_injective : Function.Injective xorshift := by
  intro x y h
  have hdiff : xorshift (x ^^^ y) = 0 := by rw [xorshift_xor, h, BitVec.xor_self]; rfl
  exact BitVec.xor_eq_zero_iff.1 ((xorshift_eq_zero_iff _).1 hdiff)

/-! ### A non-zero generator under the operations -/

theorem subA1_rng_ne_zero {s : State} (hs : s.rng ≠ 0) : (subA1 s).rng ≠ 0 := by
  by_cases hsel : s.psel = selNone
  · simpa [subA1, hsel] using xorshift_ne_zero hs
  · rwa [subA1_selected hsel]

theorem subS1_rng_ne_zero {s t : State} (hs : s.rng ≠ 0) (h : subS1 s = .next t) : t.rng ≠ 0 := by
  rcases subS1_eq_next_iff.1 h with ⟨-, rfl⟩ | ⟨-, b, -, rfl⟩
  · exact hs
  · exact xorshift_ne_zero hs

theorem execAdvance_rng_ne_zero {s t : State} (hs : s.rng ≠ 0) (h : execAdvance s = .next t) : t.rng ≠ 0 := by
  obtain ⟨w, -, hw⟩ := execAdvance_eq_next_iff.1 h
  rw [(execStep_rng_msel hw).1]
  exact subA1_rng_ne_zero hs

theorem execDispatch_rng_ne_zero {s t : State} (hs : s.rng ≠ 0) (h : execDispatch s = .next t) : t.rng ≠ 0 := by
  obtain ⟨-, u, hu, e, -, hn⟩ := execDispatch_eq_next_iff.1 h
  rw [execNoteOf_rng hn]
  exact subS1_rng_ne_zero hs hu

theorem execPoll_rng_ne_zero {s t : State} (hs : s.rng ≠ 0) (h : execPoll s = .next t) : t.rng ≠ 0 := by
  obtain ⟨a, d, hlight, hbuzzer, rfl⟩ := execPoll_eq_next_iff.1 h
  have ha : a.rng ≠ 0 := by
    split at hlight
    · exact execAdvance_rng_ne_zero hs hlight
    · exact hlight ▸ hs
  have hd : d.rng ≠ 0 := by
    split at hbuzzer
    · exact hbuzzer ▸ ha
    · exact execDispatch_rng_ne_zero ha hbuzzer
  exact hd

/-- The operations that move the generator are RESET, which loads the seed, NEXT, and the three that may pick. -/
theorem exec_rng_ne_zero {i : Instr} {s t : State} (hs : s.rng ≠ 0) (hseed : s.cfg.seed ≠ 0)
    (h : exec i s = .next t) : t.rng ≠ 0 := by
  obtain hkeep | rfl | rfl | ⟨-, rfl | rfl⟩ | ⟨-, rfl | rfl⟩ := generatorMovesOnlyAtAPick i s t h
  · rwa [hkeep]
  · cases h; exact hseed
  · cases h; exact xorshift_ne_zero hs
  · exact execAdvance_rng_ne_zero hs h
  · exact execPoll_rng_ne_zero hs h
  · exact execDispatch_rng_ne_zero hs h
  · exact execPoll_rng_ne_zero hs h

/-! ### A non-zero generator under the turns -/

/-- Of the sub-steps only A1 and S1, which may pick, move the generator. -/
theorem subStep_rng_ne_zero {p : MainPhase} {s u : State} (hs : s.rng ≠ 0) (hu : subStep p s = .next u) :
    u.rng ≠ 0 := by
  cases p with
  | boot | p1 | p2 | a5 | s3 => cases hu; simpa using hs
  | a1 => cases hu; exact subA1_rng_ne_zero hs
  | a2 => obtain ⟨w, -, rfl⟩ := subA2_eq_next_iff.1 hu; simpa using hs
  | a3 => obtain ⟨w, -, rfl⟩ := subA3_eq_next_iff.1 hu; simpa using hs
  | a4 => obtain ⟨len, -, rfl⟩ := subA4_eq_next_iff.1 hu; simpa using hs
  | s1 => exact subS1_rng_ne_zero hs hu
  | s2 => obtain ⟨e, -, ⟨-, rfl⟩ | ⟨-, rfl⟩⟩ := subS2_eq_next_iff.1 hu <;> simpa using hs
  | s4 => obtain ⟨len, -, rfl⟩ := subS4_eq_next_iff.1 hu; simpa using hs

theorem takeTurn_rng_ne_zero {c : Choice} {s t : State} (hs : s.rng ≠ 0) (hseed : s.cfg.seed ≠ 0)
    (h : takeTurn c s = .next t) : t.rng ≠ 0 := by
  cases c with
  | reset => cases h; exact hseed
  | fire => obtain ⟨-, rfl⟩ | ⟨-, rfl⟩ := fireTurn_eq_next_iff.1 h <;> simpa using hs
  | tick => obtain ⟨-, -, rfl⟩ | ⟨-, rfl⟩ := tickTurn_eq_next_iff.1 h <;> simpa using hs
  | main =>
    obtain ⟨u, hu, rfl⟩ := mainStep_eq_next_iff.1 h
    have hu' : u.rng ≠ 0 := subStep_rng_ne_zero hs hu
    exact hu'

theorem step_rng_ne_zero {s t : State} (hs : s.rng ≠ 0) (hseed : s.cfg.seed ≠ 0) (h : step s = .next t) :
    t.rng ≠ 0 := by
  have hs' : (taken s).rng ≠ 0 := by simpa using hs
  have hseed' : (taken s).cfg.seed ≠ 0 := by simpa using hseed
  rcases step_cases h with ⟨_, _, i, -, -, hexec⟩ | ⟨c, -, hturn⟩
  · exact exec_rng_ne_zero hs' hseed' hexec
  · exact takeTurn_rng_ne_zero hs' hseed' hturn

/-- Settles O5: the generator's function is injective and maps only 0 to 0, and a step draws from it, loads the seed or leaves
`RNG` alone. -/
theorem generatorIsNeverZero : Obligations.GeneratorIsNeverZero := by
  refine ⟨fun s => ⟨drawNext s, rfl, xorshift_eq_zero_iff s.rng⟩, ?_, fun _ _ => step_rng_ne_zero⟩
  rintro s s' t t' ⟨⟩ ⟨⟩ heq
  exact xorshift_injective heq

end Sys2Proof.Machine
end

section
/-! The light sequencer: the STEP word's whole effect, ADVANCE as the STEP word under the cursor, one play of a pattern, and
ADVANCE as its five sub-steps (41_light_sequencer.md). -/

namespace Sys2Proof.Machine

/-! ### The STEP word -/

theorem patternLength_of_toNat_eq {m : Memory} {sel : Sel} {p : Fin 3} (h : sel.toNat = p.val) :
    patternLength m sel = some m.pattern[p].length := by
  simp [patternLength, h]

theorem deadlineOf_eq_ofNat (mult : BitVec 7) : deadlineOf mult = BitVec.ofNat 32 (mult.toNat * 2000) := by
  rw [← deadlineOf_toNat, BitVec.ofNat_toNat, BitVec.setWidth_eq]

theorem execStep_eq_afterStep {s : State} {len : Nat} (lines : BitVec 9) (mult : BitVec 7)
    (h : patternLength s.cfg.mem s.psel = some len) :
    execStep lines mult s = .next (Claims.afterStep lines mult len s) := by
  refine execStep_eq_next_iff.2 ⟨len, h, ?_⟩
  rw [stepPatternCursor_eq, Claims.afterStep, ← deadlineOf_eq_ofNat]
  rfl

/-- Settles O14: a selected pattern has a length, by which the cursor moves; NONE has none. -/
theorem stepDrivesLinesAndSetsDeadline : Obligations.StepDrivesLinesAndSetsDeadline := by
  refine ⟨fun s lines mult p hsel => execStep_eq_afterStep lines mult (patternLength_of_toNat_eq hsel), ?_⟩
  intro s lines mult hnone
  simp [exec, execStep, subA4, patternLength, hnone]

/-- Settles O18: multiplier 0 leaves the deadline 0, which every tick count has reached. -/
theorem multiplierZeroAdvancesAtTheNextPoll : Obligations.MultiplierZeroAdvancesAtTheNextPoll := by
  intro s t lines h
  obtain ⟨hled, hdeadline⟩ := execStep_led_deadline h
  have hzero : t.deadline = 0 := hdeadline.trans rfl
  refine ⟨hled, fun v => ?_⟩
  have hdue : lightDue { t with mph := .p1, ltick := v } = true := (reaches_iff _ _).2 (hzero ▸ Nat.zero_le _)
  simp [mainStep, hdue, toPhase]

/-! ### ADVANCE -/

/-- ADVANCE is the STEP word under the cursor, at the state the pick leaves (41_light_sequencer.md R110). -/
theorem execAdvance_eq_execStep {s : State} {w : Elem} (h : memRead s.cfg.mem (stepAddr (subA1 s)) = some w) :
    execAdvance s = execStep (stepLines w) (stepMult w) (subA1 s) :=
  readThen_some (by simpa using h)

/-- With pattern `p` selected, by the pick or before it, ADVANCE has the effect of the word of `p` at the index. -/
theorem execAdvance_eq_afterStep {s : State} {p : Fin 3} {w : Elem} (hsel : (subA1 s).psel.toNat = p.val)
    (hw : s.cfg.mem.pattern[p][s.pidx.toNat]? = some w) :
    execAdvance s = .next (Claims.afterStep (stepLines w) (stepMult w) s.cfg.mem.pattern[p].length (subA1 s)) := by
  have hread : memRead s.cfg.mem (stepAddr (subA1 s)) = some w := by
    simpa [stepAddr, memRead_pattern, hsel] using hw
  rw [execAdvance_eq_execStep hread]
  exact execStep_eq_afterStep _ _ (by simpa using patternLength_of_toNat_eq hsel)

theorem stepLines_eq_ofNat (w : Elem) : stepLines w = BitVec.ofNat 9 w.toNat :=
  BitVec.eq_of_toNat_eq (by simp [stepLines])

theorem stepMult_eq_ofNat (w : Elem) : stepMult w = BitVec.ofNat 7 (w.toNat / 512) := by
  rw [← stepMult_toNat, BitVec.ofNat_toNat, BitVec.setWidth_eq]

theorem subA1_psel_toNat {s : State} {n : Nat}
    (h : if s.psel = selNone then (Claims.generator s.rng).toNat % 3 = n else s.psel.toNat = n) :
    (subA1 s).psel.toNat = n := by
  by_cases hnone : s.psel = selNone
  · rw [if_pos hnone] at h
    rw [subA1_pick_psel hnone, pickOf_toNat _ (by decide) (by decide), xorshift_eq_generator, h]
  · rw [if_neg hnone] at h
    rw [subA1_selected hnone, h]

/-- The state A1 leaves, register by register: a pick draws once and sets the repeat target (41_light_sequencer.md R111). -/
theorem subA1_eq_of_psel {s : State} {n : Nat} (h : (subA1 s).psel.toNat = n) : subA1 s = { s with
    rng := if s.psel = 3 then Claims.generator s.rng else s.rng
    psel := BitVec.ofNat 2 n
    ptgt := if s.psel = 3 then 1 else s.ptgt } := by
  rw [← h, BitVec.ofNat_toNat, BitVec.setWidth_eq]
  by_cases hnone : s.psel = selNone <;> simp [subA1, drawNext, hnone, xorshift_eq_generator]

/-- Settles O16: the pick leaves pattern `p` selected, whose word at the index ADVANCE then performs. -/
theorem advancePicksAndEmitsTheCurrentStep : Obligations.AdvancePicksAndEmitsTheCurrentStep := by
  intro s p w hp hw
  have hsel : (subA1 s).psel.toNat = p.val := subA1_psel_toNat hp
  rw [← stepLines_eq_ofNat, ← stepMult_eq_ofNat, ← subA1_eq_of_psel hsel]
  exact execAdvance_eq_afterStep hsel hw

/-! ### One play of a pattern -/

/-- `t` is where one play of the pattern selected in `s` stands before its word `j`. -/
abbrev AtWord (s : State) (j : Nat) (t : State) : Prop :=
  t.cfg = s.cfg ∧ t.rng = s.rng ∧ t.psel = s.psel ∧ t.pidx.toNat = j ∧ t.prep = 0 ∧ t.ptgt = 1

theorem index_succ_toNat {i : Index} (h : i.toNat < 255) : (i + 1).toNat = i.toNat + 1 := by
  rw [BitVec.toNat_add]
  exact Nat.mod_eq_of_lt (show i.toNat + 1 < 256 by omega)

theorem execAdvance_atWord {s t : State} {p : Fin 3} {j : Nat} {w : Elem} (hsel : s.psel.toNat = p.val)
    (ht : AtWord s j t) (hw : s.cfg.mem.pattern[p][j]? = some w) :
    execAdvance t = .next (Claims.afterStep (stepLines w) (stepMult w) s.cfg.mem.pattern[p].length t) := by
  obtain ⟨hcfg, -, hpsel, hpidx, -, -⟩ := ht
  have hpick : subA1 t = t := subA1_selected (sel_ne_none_of_lt le_rfl (hpsel ▸ hsel ▸ p.isLt))
  have hadv := execAdvance_eq_afterStep (s := t) (p := p) (w := w) (by rw [hpick, hpsel, hsel]) (by rwa [hcfg, hpidx])
  simpa only [hpick, hcfg] using hadv

/-- A word before the last moves the play on to the next one (41_light_sequencer.md R114). -/
theorem atWord_afterStep {s t : State} {j len : Nat} (lines : BitVec 9) (mult : BitVec 7) (hlen : len ≤ 255)
    (hj : j + 1 < len) (ht : AtWord s j t) : AtWord s (j + 1) (Claims.afterStep lines mult len t) := by
  obtain ⟨hcfg, hrng, hpsel, hpidx, hprep, hptgt⟩ := ht
  have hsucc : (t.pidx + 1).toNat = j + 1 := by rw [index_succ_toNat (by omega), hpidx]
  have hstay : (t.pidx + 1).toNat ≠ len := by omega
  simp only [AtWord, Claims.afterStep, hstay, if_false, false_and]
  exact ⟨hcfg, hrng, hpsel, hsucc, hprep, hptgt⟩

/-- The last word ends the one play: the selection is NONE again and the cursor at rest (41_light_sequencer.md R114, R117). -/
theorem afterStep_last {s t : State} {j : Nat} (lines : BitVec 9) (mult : BitVec 7) (hj : j < 255) (ht : AtWord s j t) :
    (Claims.afterStep lines mult (j + 1) t).psel = selNone ∧ (Claims.afterStep lines mult (j + 1) t).pidx = 0 ∧
      (Claims.afterStep lines mult (j + 1) t).prep = 0 := by
  obtain ⟨-, -, -, hpidx, hprep, hptgt⟩ := ht
  have hwrap : (t.pidx + 1).toNat = j + 1 := by rw [index_succ_toNat (by omega), hpidx]
  have hdone : t.prep + 1 = t.ptgt := by rw [hprep, hptgt]; rfl
  exact ⟨if_pos ⟨hwrap, hdone⟩, if_pos hwrap, (if_pos hwrap).trans (if_pos hdone)⟩

/-- `j` calls of ADVANCE from a fresh selection bring the play to word `j`, for every `j` inside the pattern. -/
theorem repeatAdvance_atWord {s : State} {p : Fin 3} (hsel : s.psel.toNat = p.val) (hfresh : AtWord s 0 s)
    (hlen : s.cfg.mem.pattern[p].length ≤ 255) {j : Nat} (hj : j < s.cfg.mem.pattern[p].length) :
    ∃ t, repeatOp .advance j s = .next t ∧ AtWord s j t := by
  induction j with
  | zero => exact ⟨s, rfl, hfresh⟩
  | succ j ih =>
    obtain ⟨t, hrun, ht⟩ := ih (by omega)
    have hadv := execAdvance_atWord hsel ht (List.getElem?_eq_getElem (by omega))
    exact ⟨_, by rw [repeatOp, hrun, andThen_next]; exact hadv, atWord_afterStep _ _ hlen hj ht⟩

/-- Settles O17: `k` calls bring the play to word `k`, and the next performs it and moves on or ends the play. -/
theorem patternPlaysExactlyOnce : Obligations.PatternPlaysExactlyOnce := by
  intro s p hwf hsel hpidx hprep hptgt k w hw
  have hlen : s.cfg.mem.pattern[p].length ≤ 255 := (pattern_length_bounds ((params_wf_iff _).1 hwf).2 p.val p.isLt).2
  obtain ⟨hk, -⟩ := List.getElem?_eq_some_iff.1 hw
  have hfresh : AtWord s 0 s := ⟨rfl, rfl, rfl, by rw [hpidx]; rfl, hprep, hptgt⟩
  obtain ⟨t, hrun, ht⟩ := repeatAdvance_atWord hsel hfresh hlen hk
  have hadv := execAdvance_atWord hsel ht hw
  have ⟨_, hrng, _⟩ := ht
  refine ⟨Claims.afterStep (stepLines w) (stepMult w) s.cfg.mem.pattern[p].length t,
    by rw [repeatOp, hrun, andThen_next]; exact hadv, stepLines_eq_ofNat w, ?_, rfl, hrng, ?_⟩
  · rw [← stepMult_toNat, ← deadlineOf_toNat, deadlineOf_eq_ofNat]
    rfl
  · rcases Nat.lt_or_eq_of_le hk with hmore | hend
    · obtain ⟨-, -, hpsel', hpidx', hprep', -⟩ := atWord_afterStep (stepLines w) (stepMult w) hlen hmore ht
      exact ⟨hprep', fun _ => ⟨hpsel', hpidx'⟩, fun hend => absurd hend (Nat.ne_of_lt hmore)⟩
    · obtain ⟨hpsel', hpidx', hprep'⟩ := afterStep_last (stepLines w) (stepMult w) (by omega) ht
      rw [← hend]
      exact ⟨hprep', fun hmore => absurd hmore (Nat.lt_irrefl _), fun _ => ⟨hpsel', hpidx'⟩⟩

/-! ### The five sub-steps -/

theorem mainStep_a2 {u : State} {w : Elem} (hw : memRead u.cfg.mem (stepAddr u) = some w) :
    mainStep (toPhase .a2 u) = .next (toPhase .a3 (emitLines (stepLines w) u)) := by
  have hsub : subA2 (toPhase .a2 u) = .next (emitLines (stepLines w) (toPhase .a2 u)) := readThen_some hw
  exact congrArg (andThen · fun t => .next (toPhase .a3 t)) hsub

theorem mainStep_a3 {u : State} {w : Elem} (hw : memRead u.cfg.mem (stepAddr u) = some w) :
    mainStep (toPhase .a3 u) = .next (toPhase .a4 (setDeadline (stepMult w) u)) := by
  have hsub : subA3 (toPhase .a3 u) = .next (setDeadline (stepMult w) (toPhase .a3 u)) := readThen_some hw
  exact congrArg (andThen · fun t => .next (toPhase .a4 t)) hsub

/-- A4 and A5 move the cursor and clear the ticks, or stop at the cursor; neither reads `MPH`. -/
theorem mainSteps_a4_a5 (u : State) :
    mainSteps 2 (toPhase .a4 u) = andThen (subA4 u) fun t => .next (toPhase .p2 (subA5 t)) := by
  cases hlen : patternLength u.cfg.mem u.psel with
  | none => simp [mainSteps, mainStep, subA4, toPhase, hlen]
  | some len =>
    simp [mainSteps, mainStep, subA4, toPhase, hlen, stepPatternCursor_eq, subA5, clearTicks]

/-- A2 to A5 are the STEP word under the cursor: A2 and A3 read the same word, and where there is none A2 stops. -/
theorem mainSteps_a2_to_a5 (u : State) :
    mainSteps 4 (toPhase .a2 u) = andThen (runStepUnderCursor u) fun t => .next (toPhase .p2 t) := by
  cases hw : memRead u.cfg.mem (stepAddr u) with
  | none =>
    have hstop : mainStep (toPhase .a2 u) = .refused (.tableReadOutOfRange (stepAddr u)) := by
      have hsub : subA2 (toPhase .a2 u) = .refused (.tableReadOutOfRange (stepAddr u)) := readThen_none hw
      exact congrArg (andThen · fun t => .next (toPhase .a3 t)) hsub
    rw [mainSteps, hstop, runStepUnderCursor, readThen_none hw]
    rfl
  | some w =>
    rw [mainSteps, mainStep_a2 hw, andThen_next, mainSteps, mainStep_a3 (u := emitLines (stepLines w) u) hw, andThen_next,
      mainSteps_a4_a5, runStepUnderCursor, readThen_some hw, execStep, andThen_assoc]
    rfl

/-- Settles O31: A1 is the pick, and A2 to A5 interpret the STEP word under the cursor it leaves. -/
theorem advanceIsItsFiveSubSteps : Obligations.AdvanceIsItsFiveSubSteps := by
  intro s hm
  have hpick : mainStep s = .next (toPhase .a2 (subA1 s)) := by simp [mainStep, hm]
  rw [mainSteps, hpick, andThen_next]
  exact mainSteps_a2_to_a5 (subA1 s)

/-! ### A step of a trace -/

/-- With a pattern selected ADVANCE is the STEP word under the cursor (41_light_sequencer.md R110). -/
theorem execAdvance_eq_exec_decodeStep {s : State} {w : Elem} (hsel : s.psel ≠ selNone)
    (hw : memRead s.cfg.mem (stepAddr s) = some w) : execAdvance s = exec (decodeStep w) s := by
  have hadv := execAdvance_eq_execStep (s := s) (w := w) (by rwa [subA1_selected hsel])
  rwa [subA1_selected hsel] at hadv

/-- With a live task every NOTE entry is refused (93_implementation_defined.md U3; log entry 10). -/
theorem exec_decodeNote_playing {s : State} (e : Elem) (h : s.playing = true) :
    exec (decodeNote e) s = .refused .dispatchWhilePlaying := by
  rw [exec_decodeNote, execNoteOf_eq]
  split
  · exact whenIdle_playing h _
  · exact whenIdle_playing h _

/-- With a melody selected DISPATCH is the NOTE entry under the cursor, and with a live task the two are refused alike. -/
theorem execDispatch_eq_exec_decodeNote_of_selected {s : State} {e : Elem} (hsel : s.msel ≠ selNone)
    (he : memRead s.cfg.mem (noteAddr s) = some e) : execDispatch s = exec (decodeNote e) s := by
  cases hlive : s.playing with
  | false => exact execDispatch_eq_exec_decodeNote hlive hsel he
  | true => rw [exec_decodeNote_playing e hlive, execDispatch, whenIdle_playing hlive]

/-- Settles O50: the step performs the operation, which interprets the word under its cursor. -/
theorem stepRunsTheWordUnderTheCursor : Obligations.StepRunsTheWordUnderTheCursor := by
  refine ⟨fun s rest w hs hsel hw => ?_, fun s rest e hs hsel he => ?_⟩
  · rw [stepRunsTheDecodedOperation s 0b011 .advance rest hs rfl]
    exact execAdvance_eq_exec_decodeStep hsel hw
  · rw [stepRunsTheDecodedOperation s 0b100 .dispatch rest hs rfl]
    exact execDispatch_eq_exec_decodeNote_of_selected hsel he

end Sys2Proof.Machine
end

section
/-! The tone scheduler: what a NOTE entry does, DISPATCH as the NOTE entry under the cursor, and DISPATCH as its four sub-steps
(42_tone_scheduler.md). -/

namespace Sys2Proof.Machine

/-! ### The NOTE entry -/

theorem melodyLength_of_toNat_eq {m : Memory} {sel : Sel} {p : Fin 2} (h : sel.toNat = p.val) :
    melodyLength m sel = some m.melody[p].notes.length := by
  rw [melodyLength, h, Vector.getElem?_eq_getElem p.isLt, Option.map_some]
  rfl

theorem halfPeriodOf_eq_ofNat (value : Elem) : halfPeriodOf value = BitVec.ofNat 32 (value.toNat / 50) := by
  have := value.isLt
  refine BitVec.eq_of_toNat_eq ?_
  simp [halfPeriodOf]
  omega

theorem activeOf_eq_ofNat (du : BitVec 12) (beat : Elem) :
    activeOf du beat = BitVec.ofNat 32 (du.toNat * beat.toNat * 20) := by
  simp [activeOf, BitVec.ofNat_mul]

theorem silenceOf_eq_ofNat (beat : Elem) : silenceOf beat = BitVec.ofNat 32 (beat.toNat * 10) := by
  simp [silenceOf, BitVec.ofNat_mul]

/-- A hit's writes are the note's task, marked live (42_tone_scheduler.md R122, R125). -/
theorem goLive_writeTask (value : Elem) (du : BitVec 12) (s : State) :
    goLive true (writeTask value du s) = Claims.withTask value.toNat du.toNat s.beat.toNat s := by
  simp [goLive, writeTask, Claims.withTask, halfPeriodOf_eq_ofNat, activeOf_eq_ofNat, silenceOf_eq_ofNat]

/-- A symbol of the note table dispatches its task and moves the cursor (42_tone_scheduler.md R122, R125, R126). -/
theorem execNoteOf_hit {s : State} {sym : BitVec 4} {k : Fin 10} {len : Nat} (du : BitVec 12) (hidle : s.playing = false)
    (hlen : melodyLength s.cfg.mem s.msel = some len) (hk : sym.toNat = k.val) :
    execNoteOf sym du s = .next (Claims.afterNote len
      (Claims.withTask s.cfg.mem.noteVal[k].toNat du.toNat s.beat.toNat s)) := by
  have hhit : sym.toNat ≤ 9 := by omega
  rw [execNoteOf_eq, if_pos hhit, noteHit_eq_next_iff hhit]
  refine ⟨hidle, len, hlen, ?_⟩
  rw [stepMelodyCursor_eq, goLive_writeTask]
  simp only [hk]
  rfl

/-- A symbol outside the note table only moves the cursor (42_tone_scheduler.md R124, R126). -/
theorem execNoteOf_miss {s : State} {sym : BitVec 4} {len : Nat} (du : BitVec 12) (hidle : s.playing = false)
    (hlen : melodyLength s.cfg.mem s.msel = some len) (hsym : 9 < sym.toNat) :
    execNoteOf sym du s = .next (Claims.afterNote len s) := by
  rw [execNoteOf_eq, if_neg (Nat.not_le.2 hsym)]
  exact noteMiss_eq_next_iff.2 ⟨hidle, len, hlen, stepMelodyCursor_eq len s⟩

/-- Each row of the note table is the NOTE entry of its symbol code (30_encoding.md R85). -/
theorem eq_noteOf_of_mem_hitRows {du : BitVec 12} {i : Instr} {k : Fin 10} (h : (i, k) ∈ Claims.hitRows du) :
    i = noteOf (BitVec.ofNat 4 k.val) du := by
  simp only [Claims.hitRows, List.mem_cons, Prod.mk.injEq, List.not_mem_nil, or_false] at h
  rcases h with ⟨rfl, rfl⟩ | ⟨rfl, rfl⟩ | ⟨rfl, rfl⟩ | ⟨rfl, rfl⟩ | ⟨rfl, rfl⟩ | ⟨rfl, rfl⟩ | ⟨rfl, rfl⟩ | ⟨rfl, rfl⟩ |
    ⟨rfl, rfl⟩ | ⟨rfl, rfl⟩ <;> rfl

/-- Each row outside the note table is the NOTE entry of a symbol code above 9 (30_encoding.md R85). -/
theorem eq_noteOf_of_mem_missRows {du : BitVec 12} {i : Instr} (h : i ∈ Claims.missRows du) :
    ∃ sym : BitVec 4, 9 < sym.toNat ∧ i = noteOf sym du := by
  simp only [Claims.missRows, List.mem_cons, List.not_mem_nil, or_false] at h
  rcases h with rfl | rfl | rfl | rfl | rfl | rfl
  · exact ⟨10, by decide, rfl⟩
  · exact ⟨11, by decide, rfl⟩
  · exact ⟨12, by decide, rfl⟩
  · exact ⟨13, by decide, rfl⟩
  · exact ⟨14, by decide, rfl⟩
  · exact ⟨15, by decide, rfl⟩

/-- Settles O19: each row is the NOTE entry of its symbol code, which is a hit. -/
theorem tableNotesDispatchTheirTask : Obligations.TableNotesDispatchTheirTask := by
  intro s du i k m hrow hidle hsel
  have hk : (BitVec.ofNat 4 k.val).toNat = k.val :=
    (BitVec.toNat_ofNat k.val 4).trans (Nat.mod_eq_of_lt (by omega))
  rw [eq_noteOf_of_mem_hitRows hrow, exec_noteOf]
  exact execNoteOf_hit du hidle (melodyLength_of_toNat_eq hsel) hk

/-- Settles O20: each row is the NOTE entry of a symbol code above 9, which is a miss. -/
theorem absentSymbolsOnlyMoveTheCursor : Obligations.AbsentSymbolsOnlyMoveTheCursor := by
  intro s du i m hrow hidle hsel
  obtain ⟨sym, hsym, rfl⟩ := eq_noteOf_of_mem_missRows hrow
  rw [exec_noteOf]
  exact execNoteOf_miss du hidle (melodyLength_of_toNat_eq hsel) hsym

/-! ### DISPATCH -/

/-- DISPATCH is the NOTE entry under the cursor, at the state the pick leaves (42_tone_scheduler.md R120). -/
theorem execDispatch_eq_execNoteOf {s u : State} {e : Elem} (hidle : s.playing = false) (hu : subS1 s = .next u)
    (he : memRead u.cfg.mem (noteAddr u) = some e) : execDispatch s = execNoteOf (noteSym e) (noteDu e) u := by
  rw [execDispatch, whenIdle_idle hidle, hu, andThen_next, runNoteUnderCursor, readThen_some he]

/-- The state S1 leaves, register by register: a pick draws once and loads the beat (42_tone_scheduler.md R121). -/
theorem subS1_eq_of_msel {s : State} {m : Fin 2}
    (h : if s.msel = selNone then (Claims.generator s.rng).toNat % 2 = m.val else s.msel.toNat = m.val) :
    subS1 s = .next { s with
      rng := if s.msel = 3 then Claims.generator s.rng else s.rng
      msel := BitVec.ofNat 2 m.val
      beat := if s.msel = 3 then s.cfg.mem.melody[m].beat else s.beat } := by
  by_cases hnone : s.msel = selNone
  · rw [if_pos hnone] at h
    have hpick : pickOf (Claims.generator s.rng) 2 = BitVec.ofNat 2 m.val := by rw [pickOf, h]
    have hm : (pickOf (Claims.generator s.rng) 2).toNat = m.val := by rw [pickOf_toNat _ (by decide) (by decide), h]
    refine subS1_eq_next_iff.2 (.inr ⟨hnone, s.cfg.mem.melody[m].beat, ?_, ?_⟩)
    · rw [xorshift_eq_generator, hm, memRead_melodyBeat, Vector.getElem?_eq_getElem m.isLt, Option.map_some]
      rfl
    · simp [hnone, hpick, xorshift_eq_generator]
  · rw [if_neg hnone] at h
    simp [subS1_selected hnone, hnone, ← h]

theorem subS1_playing {s u : State} (h : subS1 s = .next u) : u.playing = s.playing := by
  rcases subS1_eq_next_iff.1 h with ⟨-, rfl⟩ | ⟨-, b, -, rfl⟩ <;> rfl

theorem noteSym_toNat (e : Elem) : (noteSym e).toNat = e.toNat % 16 := by
  simp [noteSym]

theorem noteDu_toNat (e : Elem) : (noteDu e).toNat = e.toNat / 16 := by
  have := e.isLt
  simp [noteDu, Nat.shiftRight_eq_div_pow]
  omega

/-- Settles O22: the pick leaves melody `m` selected, whose entry at the index DISPATCH then interprets, hit or miss. -/
theorem dispatchPicksAndDispatchesTheCurrentNote : Obligations.DispatchPicksAndDispatchesTheCurrentNote := by
  intro s m e hidle hm he t ht
  have hpick : subS1 s = .next t := ht ▸ subS1_eq_of_msel hm
  have hcfg : t.cfg = s.cfg := subS1_cfg hpick
  have hsel : t.msel.toNat = m.val := by
    rw [ht]
    exact (BitVec.toNat_ofNat m.val 2).trans (Nat.mod_eq_of_lt (by omega))
  have hmidx : t.midx = s.midx := by rw [ht]
  have hidle' : t.playing = false := (subS1_playing hpick).trans hidle
  have hread : memRead t.cfg.mem (noteAddr t) = some e := by
    rw [noteAddr, hsel, hmidx, hcfg, memRead_melody, Vector.getElem?_eq_getElem m.isLt, Option.bind_some]
    exact he
  have hlen := melodyLength_of_toNat_eq (m := t.cfg.mem) hsel
  have hrun : exec .dispatch s = execNoteOf (noteSym e) (noteDu e) t := execDispatch_eq_execNoteOf hidle hpick hread
  rw [hrun, ← noteSym_toNat, ← noteDu_toNat, ← hcfg]
  exact ⟨fun k hk => execNoteOf_hit _ hidle' hlen hk, fun hmiss => execNoteOf_miss _ hidle' hlen hmiss⟩

/-! ### The four sub-steps -/

/-- S3 and S4 mark the task live on a hit and move the cursor, or stop at the cursor; neither reads `MPH`. -/
theorem mainSteps_s3_s4 (u : State) (hit : Bool) :
    mainSteps 2 (toPhase .s3 { u with hit := hit }) =
      andThen (subS4 (goLive hit u)) fun t => .next { t with mph := .p1, hit := false } := by
  cases hlen : melodyLength u.cfg.mem u.msel with
  | none => simp [mainSteps, mainStep, subS3, subS4, toPhase, goLive, hlen]
  | some len => simp [mainSteps, mainStep, subS3, subS4, toPhase, goLive, hlen, stepMelodyCursor_eq]

theorem mainStep_s2_hit {u : State} {e : Elem} (he : memRead u.cfg.mem (noteAddr u) = some e) (h : (noteSym e).toNat ≤ 9) :
    mainStep (toPhase .s2 u) = .next (toPhase .s3
      { writeTask (u.cfg.mem.noteVal[(noteSym e).toNat]'(by omega)) (noteDu e) u with hit := true }) :=
  congrArg (andThen · fun t => .next (toPhase .s3 t)) ((subS2_eq_next_iff (s := toPhase .s2 u)).2 ⟨e, he, .inl ⟨h, rfl⟩⟩)

theorem mainStep_s2_miss {u : State} {e : Elem} (he : memRead u.cfg.mem (noteAddr u) = some e) (h : ¬(noteSym e).toNat ≤ 9) :
    mainStep (toPhase .s2 u) = .next (toPhase .s3 { u with hit := false }) :=
  congrArg (andThen · fun t => .next (toPhase .s3 t)) ((subS2_eq_next_iff (s := toPhase .s2 u)).2 ⟨e, he, .inr ⟨h, rfl⟩⟩)

theorem mainStep_s2_refused {u : State} (he : memRead u.cfg.mem (noteAddr u) = none) :
    mainStep (toPhase .s2 u) = .refused (.tableReadOutOfRange (noteAddr u)) :=
  congrArg (andThen · fun t => .next (toPhase .s3 t))
    (show subS2 (toPhase .s2 u) = .refused (.tableReadOutOfRange (noteAddr u)) from readThen_none he)

theorem goLive_false (s : State) : goLive false s = s := by
  simp [goLive]

/-- S2 to S4 are the NOTE entry under the cursor: a hit is marked live by S3, a miss passes it unchanged, and where there is no
entry S2 stops. -/
theorem mainSteps_s2_to_s4 {u : State} (hidle : u.playing = false) :
    mainSteps 3 (toPhase .s2 u) =
      andThen (runNoteUnderCursor u) fun t => .next { t with mph := .p1, hit := false } := by
  cases he : memRead u.cfg.mem (noteAddr u) with
  | none => rw [mainSteps, mainStep_s2_refused he, runNoteUnderCursor, readThen_none he, andThen_refused, andThen_refused]
  | some e =>
    rw [runNoteUnderCursor, readThen_some he, execNoteOf_eq]
    by_cases h : (noteSym e).toNat ≤ 9
    · rw [mainSteps, mainStep_s2_hit he h, andThen_next, mainSteps_s3_s4, if_pos h, noteHit, whenIdle_idle hidle,
        noteTask_hit _ _ _ h, andThen_next]
    · rw [mainSteps, mainStep_s2_miss he h, andThen_next, mainSteps_s3_s4, goLive_false, if_neg h, noteMiss,
        whenIdle_idle hidle]

/-- Settles O32: S1 is the pick, and S2 to S4 interpret the NOTE entry under the cursor it leaves. -/
theorem dispatchIsItsFourSubSteps : Obligations.DispatchIsItsFourSubSteps := by
  intro s hm hidle
  obtain ⟨u, hu⟩ := subS1_completes s
  have hpick : mainStep s = .next (toPhase .s2 u) := by simp [mainStep, hm, hu]
  have hrun : exec .dispatch s = runNoteUnderCursor u := by
    rw [exec, execDispatch, whenIdle_idle hidle, hu, andThen_next]
  rw [mainSteps, hpick, andThen_next, hrun]
  exact mainSteps_s2_to_s4 ((subS1_playing hu).trans hidle)

end Sys2Proof.Machine
end

section
/-! The tick, branch by branch: what a whole TICK leaves in each branch of its phase (43_tick_playback.md R131 to R137). -/

namespace Sys2Proof.Machine

theorem exec_tick (s : State) : exec .tick s = .next (tickBody s) := rfl

theorem tickBody_active_exit {s : State} (hp : s.playing = true) (hi : s.insil = false) (h : s.tAd < s.dcnt + 1) :
    tickBody s = { s with ltick := s.ltick + 1, tarm := true, insil := true, dcnt := 0, ocnt := 0, buz := false } :=
  (tickBody_active hp hi).trans (congrArg rearm (activeTick_exit (s := countTick s) h))

theorem tickBody_active_rest {s : State} (hp : s.playing = true) (hi : s.insil = false) (h : ¬s.tAd < s.dcnt + 1)
    (hr : s.tHp = 0) :
    tickBody s = { s with ltick := s.ltick + 1, tarm := true, dcnt := s.dcnt + 1, buz := false } :=
  (tickBody_active hp hi).trans (congrArg rearm (activeTick_rest (s := countTick s) h hr))

theorem tickBody_active_tone {s : State} (hp : s.playing = true) (hi : s.insil = false) (h : ¬s.tAd < s.dcnt + 1)
    (hr : s.tHp ≠ 0) : tickBody s = rearm (oscillate { s with ltick := s.ltick + 1, dcnt := s.dcnt + 1 }) :=
  (tickBody_active hp hi).trans (congrArg rearm (activeTick_tone (s := countTick s) h hr))

theorem tickBody_active_invert {s : State} (hp : s.playing = true) (hi : s.insil = false) (h : ¬s.tAd < s.dcnt + 1)
    (hr : s.tHp ≠ 0) (ho : s.tHp < s.ocnt + 1) :
    tickBody s = { s with ltick := s.ltick + 1, tarm := true, dcnt := s.dcnt + 1, ocnt := 0, buz := !s.buz } :=
  (tickBody_active_tone hp hi h hr).trans
    (congrArg rearm (oscillate_invert (s := { s with ltick := s.ltick + 1, dcnt := s.dcnt + 1 }) ho))

theorem tickBody_active_count {s : State} (hp : s.playing = true) (hi : s.insil = false) (h : ¬s.tAd < s.dcnt + 1)
    (hr : s.tHp ≠ 0) (ho : ¬s.tHp < s.ocnt + 1) :
    tickBody s = { s with ltick := s.ltick + 1, tarm := true, dcnt := s.dcnt + 1, ocnt := s.ocnt + 1 } :=
  (tickBody_active_tone hp hi h hr).trans
    (congrArg rearm (oscillate_count (s := { s with ltick := s.ltick + 1, dcnt := s.dcnt + 1 }) ho))

/-- Short of the duration threshold a tick leaves the note ACTIVE, whether it rests or oscillates. -/
theorem tickBody_active_stay {s : State} (hp : s.playing = true) (hi : s.insil = false) (h : ¬s.tAd < s.dcnt + 1) :
    (tickBody s).playing = true ∧ (tickBody s).insil = false := by
  by_cases hr : s.tHp = 0
  · rw [tickBody_active_rest hp hi h hr]
    exact ⟨hp, hi⟩
  · rw [tickBody_active_tone hp hi h hr]
    simp [hp, hi]

theorem tickBody_postSilence_exit {s : State} (hp : s.playing = true) (hi : s.insil = true) (h : s.tPs < s.scnt + 1) :
    tickBody s =
      { s with ltick := s.ltick + 1, tarm := true, buz := false, playing := false, scnt := 0, insil := false } :=
  (tickBody_postSilence hp hi).trans (congrArg rearm (postSilenceTick_exit (s := countTick s) h))

theorem tickBody_postSilence_stay {s : State} (hp : s.playing = true) (hi : s.insil = true)
    (h : ¬s.tPs < s.scnt + 1) :
    tickBody s = { s with ltick := s.ltick + 1, tarm := true, buz := false, scnt := s.scnt + 1 } :=
  (tickBody_postSilence hp hi).trans (congrArg rearm (postSilenceTick_stay (s := countTick s) h))

/-- Settles O7: the IDLE branch of the tick. -/
theorem idleTickForcesTheLineLow : Obligations.IdleTickForcesTheLineLow :=
  fun _ hp => congrArg Host.Outcome.next (tickBody_idle hp)

/-- Settles O8: the four ACTIVE branches, by the tests in their order. -/
theorem activeTickTestsDurationThenRestThenOscillates : Obligations.ActiveTickTestsDurationThenRestThenOscillates := by
  intro s hp hi
  rw [exec_tick]
  by_cases hexit : s.tAd < s.dcnt + 1
  · rw [if_pos hexit, tickBody_active_exit hp hi hexit]
  · rw [if_neg hexit]
    by_cases hrest : s.tHp = 0
    · rw [if_pos hrest, tickBody_active_rest hp hi hexit hrest]
    · rw [if_neg hrest]
      by_cases hosc : s.tHp < s.ocnt + 1
      · rw [if_pos hosc, tickBody_active_invert hp hi hexit hrest hosc]
      · rw [if_neg hosc, tickBody_active_count hp hi hexit hrest hosc]

/-- Settles O9: the two POST_SILENCE branches; of all ticks only the first clears `PLAYING`. -/
theorem postSilenceTickEndsTheNote : Obligations.PostSilenceTickEndsTheNote := by
  refine ⟨fun s hp hi => ?_, fun s t ht hp hp' => ?_⟩
  · rw [exec_tick]
    by_cases hexit : s.tPs < s.scnt + 1
    · rw [if_pos hexit, tickBody_postSilence_exit hp hi hexit]
    · rw [if_neg hexit, tickBody_postSilence_stay hp hi hexit]
  · cases ht
    exact tickBody_clears_playing hp hp'

/-- The frame of TICK as one equation: it writes at most these eight registers (43_tick_playback.md R143). -/
theorem tickBody_eq_with_written (s : State) : tickBody s = { s with
    ltick := (tickBody s).ltick, tarm := (tickBody s).tarm, playing := (tickBody s).playing, dcnt := (tickBody s).dcnt
    scnt := (tickBody s).scnt, ocnt := (tickBody s).ocnt, insil := (tickBody s).insil, buz := (tickBody s).buz } := by
  have hframe := tickBody_frame s
  generalize tickBody s = t at hframe
  cases t
  simp_all

/-- Settles O10: TICK is a function of the state; its frame, its re-arm and its count hold in every phase, and an IDLE tick
does not set `PLAYING`. -/
theorem tickRearmsOnEveryPath : Obligations.TickRearmsOnEveryPath := by
  intro s
  refine ⟨tickBody s, rfl, by simp, by simp, fun hp' => ?_, tickBody_eq_with_written s⟩
  by_contra hp
  simp [tickBody_playing_of_idle (Bool.eq_false_iff.2 hp)] at hp'

end Sys2Proof.Machine
end

section
/-! The playback phase under a step: the three transitions of 43_tick_playback.md R138. -/

namespace Sys2Proof.Machine

theorem phase_idle {s : State} (hp : s.playing = false) : s.phase = .idle := (phaseOf_idle_iff _ _).2 hp

theorem phase_active {s : State} (hp : s.playing = true) (hi : s.insil = false) : s.phase = .active :=
  (phaseOf_active_iff _ _).2 ⟨hp, hi⟩

theorem phase_postSilence {s : State} (hp : s.playing = true) (hi : s.insil = true) : s.phase = .postSilence :=
  (phaseOf_postSilence_iff _ _).2 ⟨hp, hi⟩

theorem phase_congr {s t : State} (hp : t.playing = s.playing) (hi : t.insil = s.insil) : t.phase = s.phase :=
  congrArg₂ phaseOf hp hi

/-- The rows of the transition table, for a turn of `c` from `s` to `t`. -/
abbrev PhaseRow (c : Choice) (s t : State) : Prop :=
  (s.phase = .idle ∧ t.phase = .active ∧ c = .main ∧ s.mph = .s3) ∨
    (s.phase = .active ∧ t.phase = .postSilence ∧ c = .tick ∧ s.tAd < s.dcnt + 1) ∨
    (s.phase = .postSilence ∧ t.phase = .idle ∧ c = .tick ∧ s.tPs < s.scnt + 1)

/-- A tick leaves the phase only by the exit of ACTIVE or of POST_SILENCE. -/
theorem phaseRow_tickBody {s : State} (hne : (tickBody s).phase ≠ s.phase) : PhaseRow .tick s (tickBody s) := by
  cases hp : s.playing with
  | false =>
    rw [phase_idle hp, phase_idle (tickBody_playing_of_idle hp)] at hne
    exact absurd rfl hne
  | true =>
    cases hi : s.insil with
    | false =>
      by_cases hexit : s.tAd < s.dcnt + 1
      · rw [tickBody_active_exit hp hi hexit]
        exact .inr (.inl ⟨phase_active hp hi, phase_postSilence hp rfl, rfl, hexit⟩)
      · obtain ⟨hp', hi'⟩ := tickBody_active_stay hp hi hexit
        rw [phase_active hp hi, phase_active hp' hi'] at hne
        exact absurd rfl hne
    | true =>
      by_cases hexit : s.tPs < s.scnt + 1
      · rw [tickBody_postSilence_exit hp hi hexit]
        exact .inr (.inr ⟨phase_postSilence hp hi, phase_idle rfl, rfl, hexit⟩)
      · rw [tickBody_postSilence_stay hp hi hexit] at hne
        exact absurd (phase_congr rfl rfl) hne

theorem phaseRow_tickTurn {s t : State} (h : tickTurn s = .next t) (hne : t.phase ≠ s.phase) : PhaseRow .tick s t := by
  rcases tickTurn_eq_next_iff.1 h with ⟨-, -, rfl⟩ | ⟨-, rfl⟩
  · have hrow := phaseRow_tickBody (s := interruptEntry s) hne
    exact hrow
  · exact absurd rfl hne

/-- The main context never writes `INSIL` (60_exceptions.md R175). -/
theorem subStep_insil {p : MainPhase} {s u : State} (hu : subStep p s = .next u) : u.insil = s.insil := by
  cases p with
  | boot | p1 | p2 | a1 | a5 | s3 => cases hu; simp
  | a2 => obtain ⟨w, -, rfl⟩ := subA2_eq_next_iff.1 hu; simp
  | a3 => obtain ⟨w, -, rfl⟩ := subA3_eq_next_iff.1 hu; simp
  | a4 => obtain ⟨len, -, rfl⟩ := subA4_eq_next_iff.1 hu; simp
  | s1 => obtain ⟨-, rfl⟩ | ⟨-, b, -, rfl⟩ := subS1_eq_next_iff.1 hu <;> simp
  | s2 => obtain ⟨e, -, ⟨-, rfl⟩ | ⟨-, rfl⟩⟩ := subS2_eq_next_iff.1 hu <;> simp
  | s4 => obtain ⟨len, -, rfl⟩ := subS4_eq_next_iff.1 hu; simp

/-- Of the sub-steps only S3 moves the phase, and it finds `INSIL = 0` as `PLAYING = 0` has left it. -/
theorem phaseRow_mainStep {s t : State} (hplay : PlaybackOk s) (h : mainStep s = .next t) (hne : t.phase ≠ s.phase) :
    PhaseRow .main s t := by
  obtain ⟨u, hu, rfl⟩ := mainStep_eq_next_iff.1 h
  obtain ⟨-, hp', -⟩ := subStep_cfg_and_handoff hu
  have hi' := subStep_insil hu
  by_cases hs3 : (decide (s.mph = .s3) && s.hit) = true
  · cases hp : s.playing with
    | true => exact absurd (phase_congr (by simp [hp', hp]) (by simp [hi'])) hne
    | false =>
      obtain ⟨hidle, -, -⟩ := hplay
      obtain ⟨-, -, -, hi, -⟩ := hidle hp
      rw [Bool.and_eq_true, decide_eq_true_eq] at hs3
      exact .inl ⟨phase_idle hp, phase_active (by simp [hp', hs3]) (by simp [hi', hi]), rfl, hs3.1⟩
  · exact absurd (phase_congr (by simp [hp', Bool.eq_false_iff.2 hs3]) (by simp [hi'])) hne

/-- Settles O11: a closed step is a turn; the tick source writes neither phase register, and the other two agents keep to
the table. -/
theorem phaseChangesOnlyAsTheTableSays : Obligations.PhaseChangesOnlyAsTheTableSays := by
  intro s t hinv ht hne hreset
  obtain ⟨c, hc, hstep⟩ := step_eq_takeTurn hinv
  obtain ⟨⟨-, -, -, -, hplay, -⟩, -, -, -⟩ := inv_taken hinv
  have hphase : (taken s).phase = s.phase := phase_congr (by simp) (by simp)
  rw [hstep] at ht
  rw [← hphase] at hne
  suffices PhaseRow c (taken s) t by simpa [PhaseRow, hc, hphase] using this
  cases c with
  | reset => exact absurd hc hreset
  | fire => obtain ⟨-, rfl⟩ | ⟨-, rfl⟩ := fireTurn_eq_next_iff.1 ht <;> exact absurd rfl hne
  | tick => exact phaseRow_tickTurn ht hne
  | main => exact phaseRow_mainStep hplay ht hne

end Sys2Proof.Machine
end

section
/-! The life of a note, tick by tick (43_tick_playback.md R139, R141): the ACTIVE ticks, the POST_SILENCE ticks and the end;
and what DISPATCH puts in the task. -/

namespace Sys2Proof.Machine

/-! ### Repeated ticks -/

theorem repeatOp_tick (n : Nat) (s : State) : repeatOp .tick n s = .next (tickBody^[n] s) := by
  induction n with
  | zero => rfl
  | succ n ih => rw [repeatOp, ih, andThen_next, exec_tick, Function.iterate_succ_apply']

/-- No number of ticks changes the task or the melody cursor. -/
@[simp] theorem iterate_tickBody_frame (n : Nat) (s : State) :
    (tickBody^[n] s).tHp = s.tHp ∧ (tickBody^[n] s).tAd = s.tAd ∧ (tickBody^[n] s).tPs = s.tPs ∧
      (tickBody^[n] s).midx = s.midx ∧ (tickBody^[n] s).msel = s.msel := by
  induction n with
  | zero => exact ⟨rfl, rfl, rfl, rfl, rfl⟩
  | succ n ih => simpa [Function.iterate_succ_apply'] using ih

/-! ### Counting -/

theorem word_succ_toNat {c : Word} (h : c.toNat < 2 ^ 32 - 1) : (c + 1).toNat = c.toNat + 1 := by
  rw [BitVec.toNat_add]
  exact Nat.mod_eq_of_lt (by simp; omega)

/-- A counter of `n` that has not yet reached its threshold `t` does not wrap, and its next value does not exceed `t`. -/
theorem succ_not_exceeds {c t : Word} {n : Nat} (hc : c.toNat = n) (hn : n < t.toNat) :
    (c + 1).toNat = n + 1 ∧ ¬t < c + 1 := by
  have := t.isLt
  have hsucc := word_succ_toNat (c := c) (by omega)
  rw [BitVec.lt_def]
  omega

/-- A counter at its threshold exceeds it at the next tick, unless the threshold is the largest word. -/
theorem succ_exceeds {c t : Word} (hc : c.toNat = t.toNat) (ht : t.toNat < 2 ^ 32 - 1) : t < c + 1 := by
  have hsucc := word_succ_toNat (c := c) (by omega)
  rw [BitVec.lt_def]
  omega

theorem not_allOnes_lt (c : Word) : ¬BitVec.allOnes 32 < c := by
  have := c.isLt
  rw [BitVec.lt_def, BitVec.toNat_allOnes]
  omega

/-- In half-periods of `h + 1` ticks the last tick of one is followed by the first of the next. -/
theorem halfPeriod_succ_of_last {k h : Nat} (hlast : k % (h + 1) = h) :
    (k + 1) / (h + 1) = k / (h + 1) + 1 ∧ (k + 1) % (h + 1) = 0 := by
  have hk := Nat.div_add_mod k (h + 1)
  exact (Nat.div_mod_unique (Nat.add_one_pos h)).2 ⟨by rw [Nat.mul_succ]; omega, Nat.add_one_pos h⟩

/-- A tick before the last of a half-period of `h + 1` ticks is followed by one of the same half-period. -/
theorem halfPeriod_succ_of_lt {k h : Nat} (hlt : k % (h + 1) < h) :
    (k + 1) / (h + 1) = k / (h + 1) ∧ (k + 1) % (h + 1) = k % (h + 1) + 1 := by
  have hk := Nat.div_add_mod k (h + 1)
  exact (Nat.div_mod_unique (Nat.add_one_pos h)).2 ⟨by omega, by omega⟩

/-! ### The stages of a note -/

/-- `t` is where a note stands after `k` ticks of its ACTIVE phase (43_tick_playback.md R139 (a), (b)). -/
structure ActiveAt (k : Nat) (t : State) : Prop where
  playing : t.playing = true
  insil : t.insil = false
  dcnt : t.dcnt.toNat = k
  scnt : t.scnt = 0
  buz : t.buz = decide (0 < t.tHp.toNat ∧ k / (t.tHp.toNat + 1) % 2 = 1)
  ocnt : t.ocnt.toNat = if t.tHp.toNat = 0 then 0 else k % (t.tHp.toNat + 1)

/-- `t` is where a note stands `j` ticks after it entered POST_SILENCE (43_tick_playback.md R139 (c), (d)). -/
structure SilentAt (j : Nat) (t : State) : Prop where
  playing : t.playing = true
  insil : t.insil = true
  dcnt : t.dcnt = 0
  scnt : t.scnt.toNat = j
  ocnt : t.ocnt = 0
  buz : t.buz = false

/-- All of the playback state is 0, as a note leaves it (43_tick_playback.md R139 (e)). -/
structure AtRest (t : State) : Prop where
  playing : t.playing = false
  dcnt : t.dcnt = 0
  scnt : t.scnt = 0
  ocnt : t.ocnt = 0
  insil : t.insil = false
  buz : t.buz = false

/-- A note begins with its playback state at 0. -/
theorem activeAt_zero {s : State} (hp : s.playing = true) (hi : s.insil = false) (hd : s.dcnt = 0) (hs : s.scnt = 0)
    (ho : s.ocnt = 0) (hb : s.buz = false) : ActiveAt 0 s :=
  ⟨hp, hi, by simp [hd], hs, by simp [hb], by simp [ho]⟩

/-- An ACTIVE tick short of the duration: a rest counts, a tone inverts the line at the end of each half-period. -/
theorem activeAt_tickBody {k : Nat} {t : State} (h : ActiveAt k t) (hk : k < t.tAd.toNat) :
    ActiveAt (k + 1) (tickBody t) := by
  obtain ⟨hp, hi, hd, hs, hb, ho⟩ := h
  obtain ⟨hd', hstay⟩ := succ_not_exceeds hd hk
  by_cases hrest : t.tHp = 0
  · rw [tickBody_active_rest hp hi hstay hrest]
    exact ⟨hp, hi, hd', hs, by simp [hrest], by simp [hrest, ho]⟩
  · have hH : t.tHp.toNat ≠ 0 := fun h0 => hrest (BitVec.eq_of_toNat_eq h0)
    rw [if_neg hH] at ho
    have hlt : k % (t.tHp.toNat + 1) < t.tHp.toNat + 1 := Nat.mod_lt _ (Nat.succ_pos _)
    by_cases hlast : k % (t.tHp.toNat + 1) = t.tHp.toNat
    · obtain ⟨hdiv, hmod⟩ := halfPeriod_succ_of_last hlast
      have hle := Nat.mod_le k (t.tHp.toNat + 1)
      have hinv : t.tHp < t.ocnt + 1 := succ_exceeds (ho.trans hlast) (by have := t.tAd.isLt; omega)
      rw [tickBody_active_invert hp hi hstay hrest hinv]
      refine ⟨hp, hi, hd', hs, ?_, by simp [hH, hmod]⟩
      simp only [hb, hdiv, ← decide_not]
      exact decide_eq_decide.2 (by omega)
    · obtain ⟨hdiv, hmod⟩ := halfPeriod_succ_of_lt (show k % (t.tHp.toNat + 1) < t.tHp.toNat by omega)
      obtain ⟨ho', hcount⟩ := succ_not_exceeds ho (show k % (t.tHp.toNat + 1) < t.tHp.toNat by omega)
      rw [tickBody_active_count hp hi hstay hrest hcount]
      exact ⟨hp, hi, hd', hs, by simp only [hb, hdiv], by simp only [if_neg hH, ho', hmod]⟩

/-- The tick after the last of the duration clears what has to be 0 in POST_SILENCE. -/
theorem silentAt_tickBody_of_activeAt {t : State} (h : ActiveAt t.tAd.toNat t) (hD : t.tAd.toNat < 2 ^ 32 - 1) :
    SilentAt 0 (tickBody t) := by
  rw [tickBody_active_exit h.playing h.insil (succ_exceeds h.dcnt hD)]
  exact ⟨h.playing, rfl, rfl, by simp [h.scnt], rfl, rfl⟩

theorem silentAt_tickBody {j : Nat} {t : State} (h : SilentAt j t) (hj : j < t.tPs.toNat) :
    SilentAt (j + 1) (tickBody t) := by
  obtain ⟨hs', hstay⟩ := succ_not_exceeds h.scnt hj
  rw [tickBody_postSilence_stay h.playing h.insil hstay]
  exact ⟨h.playing, h.insil, h.dcnt, hs', h.ocnt, rfl⟩

theorem atRest_tickBody {t : State} (h : SilentAt t.tPs.toNat t) (hS : t.tPs.toNat < 2 ^ 32 - 1) : AtRest (tickBody t) := by
  rw [tickBody_postSilence_exit h.playing h.insil (succ_exceeds h.scnt hS)]
  exact ⟨rfl, h.dcnt, rfl, h.ocnt, rfl, rfl⟩

theorem activeAt_iterate {s : State} (h : ActiveAt 0 s) (k : Nat) (hk : k ≤ s.tAd.toNat) :
    ActiveAt k (tickBody^[k] s) := by
  induction k with
  | zero => exact h
  | succ k ih =>
    rw [Function.iterate_succ_apply']
    exact activeAt_tickBody (ih (by omega)) (by simpa using hk)

theorem silentAt_iterate {s : State} (h : ActiveAt 0 s) (hD : s.tAd.toNat < 2 ^ 32 - 1) (j : Nat) (hj : j ≤ s.tPs.toNat) :
    SilentAt j (tickBody^[s.tAd.toNat + 1 + j] s) := by
  induction j with
  | zero =>
    rw [Nat.add_zero, Function.iterate_succ_apply']
    exact silentAt_tickBody_of_activeAt (by simpa using activeAt_iterate h _ le_rfl) (by simpa using hD)
  | succ j ih =>
    rw [← Nat.add_assoc, Function.iterate_succ_apply']
    exact silentAt_tickBody (ih (by omega)) (by simpa using hj)

theorem atRest_iterate {s : State} (h : ActiveAt 0 s) (hD : s.tAd.toNat < 2 ^ 32 - 1) (hS : s.tPs.toNat < 2 ^ 32 - 1) :
    AtRest (tickBody^[s.tAd.toNat + s.tPs.toNat + 2] s) := by
  rw [show s.tAd.toNat + s.tPs.toNat + 2 = (s.tAd.toNat + 1 + s.tPs.toNat) + 1 by omega, Function.iterate_succ_apply']
  exact atRest_tickBody (by simpa using silentAt_iterate h hD _ le_rfl) (by simpa using hS)

/-- Settles O12: tick by tick through the ACTIVE phase, then through the POST_SILENCE, and the end. -/
theorem noteTicksFollowTheClosedForm : Obligations.NoteTicksFollowTheClosedForm := by
  intro s hp hi hd hs ho hb hD hS
  have hstart : ActiveAt 0 s := activeAt_zero hp hi hd hs ho hb
  refine ⟨fun k hk => ⟨_, repeatOp_tick _ s, ?_⟩, fun j hj => ⟨_, repeatOp_tick _ s, ?_⟩, _, repeatOp_tick _ s, ?_⟩
  · obtain ⟨hp, hi, hd, hs, hb, ho⟩ := activeAt_iterate hstart k hk
    exact ⟨phase_active hp hi, hd, hs, by simpa using hb, by simpa using ho⟩
  · obtain ⟨hp, hi, hd, hs, ho, hb⟩ := silentAt_iterate hstart hD j hj
    exact ⟨phase_postSilence hp hi, hd, ho, hs, hb⟩
  · obtain ⟨hp, hd, hs, ho, hi, hb⟩ := atRest_iterate hstart hD hS
    exact ⟨phase_idle hp, hd, hs, ho, hi, hb⟩

/-! ### Thresholds at the top of the range -/

/-- The largest word is exceeded by no counter, so the ACTIVE phase never ends. -/
theorem iterate_tickBody_active_hangs {s : State} (hp : s.playing = true) (hi : s.insil = false)
    (h : s.tAd = BitVec.allOnes 32) (n : Nat) : (tickBody^[n] s).playing = true ∧ (tickBody^[n] s).insil = false := by
  induction n with
  | zero => exact ⟨hp, hi⟩
  | succ n ih =>
    rw [Function.iterate_succ_apply']
    exact tickBody_active_stay ih.1 ih.2 (by simpa [h] using not_allOnes_lt _)

/-- The largest word is exceeded by no counter, so the POST_SILENCE phase never ends. -/
theorem iterate_tickBody_postSilence_hangs {s : State} (hp : s.playing = true) (hi : s.insil = true)
    (h : s.tPs = BitVec.allOnes 32) (n : Nat) : (tickBody^[n] s).playing = true ∧ (tickBody^[n] s).insil = true := by
  induction n with
  | zero => exact ⟨hp, hi⟩
  | succ n ih =>
    rw [Function.iterate_succ_apply', tickBody_postSilence_stay ih.1 ih.2 (by simpa [h] using not_allOnes_lt _)]
    exact ih

/-- With the largest half-period an ACTIVE tick that does not end the phase leaves the line as it is. -/
theorem tickBody_buz_of_top_halfPeriod {s : State} (hp : s.playing = true) (hi : s.insil = false)
    (h : s.tHp = BitVec.allOnes 32) : (tickBody s).buz = s.buz ∨ (tickBody s).insil = true := by
  by_cases hexit : s.tAd < s.dcnt + 1
  · rw [tickBody_active_exit hp hi hexit]
    exact .inr rfl
  · have hrest : s.tHp ≠ 0 := by rw [h]; decide
    have hcount : ¬s.tHp < s.ocnt + 1 := h ▸ not_allOnes_lt _
    rw [tickBody_active_count hp hi hexit hrest hcount]
    exact .inl rfl

/-! ### What DISPATCH puts in the task -/

/-- A NOTE entry that makes a task live is a table hit, and the task is the note's (42_tone_scheduler.md R122). -/
theorem execNoteOf_live {sym : BitVec 4} {du : BitVec 12} {s t : State} (h : execNoteOf sym du s = .next t)
    (hlive : t.playing = true) :
    ∃ value, t.tHp = halfPeriodOf value ∧ t.tAd = activeOf du s.beat ∧ t.tPs = silenceOf s.beat := by
  rw [execNoteOf_eq] at h
  by_cases hsym : sym.toNat ≤ 9
  · rw [if_pos hsym] at h
    obtain ⟨-, len, -, rfl⟩ := (noteHit_eq_next_iff hsym).1 h
    exact ⟨s.cfg.mem.noteVal[sym.toNat]'(by omega), by simp⟩
  · rw [if_neg hsym] at h
    obtain ⟨hidle, len, -, rfl⟩ := noteMiss_eq_next_iff.1 h
    simp [hidle] at hlive

theorem execDispatch_live {s t : State} (h : execDispatch s = .next t) (hlive : t.playing = true) :
    ∃ value du beat, t.tHp = halfPeriodOf value ∧ t.tAd = activeOf du beat ∧ t.tPs = silenceOf beat := by
  obtain ⟨-, u, -, e, -, hn⟩ := execDispatch_eq_next_iff.1 h
  obtain ⟨value, htask⟩ := execNoteOf_live hn hlive
  exact ⟨value, _, _, htask⟩

/-- A multiple of 4 is not the largest word. -/
theorem lt_top_of_mod_four {c : Word} (h : c.toNat % 4 = 0) : c.toNat < 2 ^ 32 - 1 := by
  have := c.isLt
  omega

/-- Settles O13: no counter exceeds the largest word, and the formulas of a task never give it. -/
theorem topThresholdHangsAndIsNeverDispatched : Obligations.TopThresholdHangsAndIsNeverDispatched := by
  refine ⟨fun s hp hi h n => ⟨_, repeatOp_tick n s, ?_⟩, fun s hp hi h n => ⟨_, repeatOp_tick n s, ?_⟩,
    fun s t hp hi h ht => ?_, fun s t ht hlive => ?_⟩
  · obtain ⟨hp', hi'⟩ := iterate_tickBody_active_hangs hp hi h n
    exact phase_active hp' hi'
  · obtain ⟨hp', hi'⟩ := iterate_tickBody_postSilence_hangs hp hi h n
    exact phase_postSilence hp' hi'
  · cases ht
    exact tickBody_buz_of_top_halfPeriod hp hi h
  · obtain ⟨value, du, beat, hHp, hAd, hPs⟩ := execDispatch_live ht hlive
    have hlt := lt_top_of_mod_four (activeOf_mod_four du beat)
    rw [hHp, hAd, hPs]
    exact ⟨fun htop => absurd (htop ▸ hlt) (by decide), silenceOf_le beat, halfPeriodOf_le value⟩

/-! ### A dispatched note -/

/-- A NOTE entry leaves the interrupt context's registers alone (60_exceptions.md R175). -/
theorem execNoteOf_playback_frame {sym : BitVec 4} {du : BitVec 12} {s t : State} (h : execNoteOf sym du s = .next t) :
    t.dcnt = s.dcnt ∧ t.scnt = s.scnt ∧ t.ocnt = s.ocnt ∧ t.insil = s.insil ∧ t.buz = s.buz := by
  rw [execNoteOf_eq] at h
  by_cases hsym : sym.toNat ≤ 9
  · rw [if_pos hsym] at h
    obtain ⟨-, len, -, rfl⟩ := (noteHit_eq_next_iff hsym).1 h
    simp
  · rw [if_neg hsym] at h
    obtain ⟨-, len, -, rfl⟩ := noteMiss_eq_next_iff.1 h
    simp

theorem subS1_playback_frame {s u : State} (h : subS1 s = .next u) :
    u.dcnt = s.dcnt ∧ u.scnt = s.scnt ∧ u.ocnt = s.ocnt ∧ u.insil = s.insil ∧ u.buz = s.buz := by
  rcases subS1_eq_next_iff.1 h with ⟨-, rfl⟩ | ⟨-, b, -, rfl⟩ <;> exact ⟨rfl, rfl, rfl, rfl, rfl⟩

/-- A task that DISPATCH makes live begins with the playback state at 0, as `PLAYING = 0` has left it (10_state.md R28). -/
theorem activeAt_execDispatch {s t : State} (hdata : DataOk s) (h : execDispatch s = .next t) (hlive : t.playing = true) :
    ActiveAt 0 t := by
  obtain ⟨hidle, u, hu, e, -, hn⟩ := execDispatch_eq_next_iff.1 h
  obtain ⟨-, -, -, -, ⟨hrest, -, -⟩, -⟩ := hdata
  obtain ⟨hd, hs, ho, hi, hb⟩ := hrest hidle
  obtain ⟨hd1, hs1, ho1, hi1, hb1⟩ := subS1_playback_frame hu
  obtain ⟨hd2, hs2, ho2, hi2, hb2⟩ := execNoteOf_playback_frame hn
  exact activeAt_zero hlive (hi2.trans (hi1.trans hi)) (hd2.trans (hd1.trans hd)) (hs2.trans (hs1.trans hs))
    (ho2.trans (ho1.trans ho)) (hb2.trans (hb1.trans hb))

/-- A note is live from its first ACTIVE tick to its last POST_SILENCE tick. -/
theorem playing_iterate {s : State} (h : ActiveAt 0 s) (hD : s.tAd.toNat < 2 ^ 32 - 1) {k : Nat}
    (hk : k < s.tAd.toNat + s.tPs.toNat + 2) : (tickBody^[k] s).playing = true := by
  by_cases hactive : k ≤ s.tAd.toNat
  · exact (activeAt_iterate h k hactive).playing
  · obtain ⟨j, rfl⟩ := Nat.exists_eq_add_of_le (show s.tAd.toNat + 1 ≤ k by omega)
    exact (silentAt_iterate h hD j (by omega)).playing

/-- Settles O23: the note DISPATCH makes live runs its two phases, whose thresholds are not the largest word. -/
theorem dispatchedNoteLastsItsTicks : Obligations.DispatchedNoteLastsItsTicks := by
  intro s t hdata ht hlive
  have hstart : ActiveAt 0 t := activeAt_execDispatch hdata ht hlive
  obtain ⟨-, -, -, -, -, -, -, hPs, hAd⟩ := dataOk_execDispatch hdata ht
  have hD : t.tAd.toNat < 2 ^ 32 - 1 := lt_top_of_mod_four hAd
  have hS : t.tPs.toNat < 2 ^ 32 - 1 := by omega
  refine ⟨fun k hk => ⟨_, repeatOp_tick k t, playing_iterate hstart hD hk, by simp⟩, _, repeatOp_tick _ t, ?_⟩
  obtain ⟨hp, hd, hs, ho, hi, hb⟩ := atRest_iterate hstart hD hS
  exact ⟨hp, hd, hs, ho, hi, hb, by simp⟩

end Sys2Proof.Machine
end

section
/-! The time base under fair turns (43_tick_playback.md R137, 60_exceptions.md R167). -/

namespace Sys2Proof.Machine

theorem afterTurns_succ {turns : Nat → Choice} {s t : State} {n : Nat} (h : afterTurns turns n s = .next t) :
    afterTurns turns (n + 1) s = takeTurn (turns n) t := by
  rw [afterTurns, h, andThen_next]

/-- Under the invariant any number of turns completes, and keeps it. -/
theorem afterTurns_completes {turns : Nat → Choice} {s : State} (h : Inv s) (n : Nat) :
    ∃ t, afterTurns turns n s = .next t ∧ Inv t := by
  induction n with
  | zero => exact ⟨s, rfl, h⟩
  | succ n ih =>
    obtain ⟨t, ht, hinv⟩ := ih
    obtain ⟨u, hu⟩ := takeTurn_completes (turns n) hinv
    exact ⟨u, (afterTurns_succ ht).trans hu, inv_takeTurn hinv hu⟩

/-- After the first `n` turns a tick is pending. -/
def PendingAfter (turns : Nat → Choice) (s : State) (n : Nat) : Prop :=
  ∃ t, afterTurns turns n s = .next t ∧ Inv t ∧ t.tpend = true

/-- A turn of the tick source leaves a tick pending: it fires, or one was pending already (60_exceptions.md R162). -/
theorem fireTurn_tpend {s t : State} (h : TimerOk s) (ht : fireTurn s = .next t) : t.tpend = true := by
  rcases fireTurn_eq_next_iff.1 ht with ⟨-, rfl⟩ | ⟨harm, rfl⟩
  · rfl
  · simpa [harm] using h.2

theorem mainStep_tpend {s t : State} (ht : mainStep s = .next t) : t.tpend = s.tpend := by
  obtain ⟨u, hu, rfl⟩ := mainStep_eq_next_iff.1 ht
  obtain ⟨-, htpend, -, -⟩ := subStep_frame hu
  exact htpend

/-- Only the interrupt context takes a pending tick, RESET apart (60_exceptions.md R164). -/
theorem takeTurn_keeps_tpend {c : Choice} {s t : State} (h : Inv s) (hpend : s.tpend = true) (hreset : c ≠ .reset)
    (htick : c ≠ .tick) (ht : takeTurn c s = .next t) : t.tpend = true := by
  cases c with
  | reset => exact absurd rfl hreset
  | fire =>
    obtain ⟨-, -, htimer, -⟩ := h
    exact fireTurn_tpend htimer ht
  | tick => exact absurd rfl htick
  | main => exact (mainStep_tpend ht).trans hpend

theorem pendingAfter_succ_of_fire {turns : Nat → Choice} {s : State} {n : Nat} (h : Inv s) (hfire : turns n = .fire) :
    PendingAfter turns s (n + 1) := by
  obtain ⟨t, ht, hinv⟩ := afterTurns_completes (turns := turns) h n
  obtain ⟨u, hu⟩ := takeTurn_completes .fire hinv
  have hinv' : Inv u := inv_takeTurn hinv hu
  obtain ⟨-, -, htimer, -⟩ := hinv
  exact ⟨u, (afterTurns_succ ht).trans (by rwa [hfire]), hinv', fireTurn_tpend htimer hu⟩

theorem pendingAfter_succ {turns : Nat → Choice} {s : State} {n : Nat} (h : PendingAfter turns s n)
    (hreset : turns n ≠ .reset) (htick : turns n ≠ .tick) : PendingAfter turns s (n + 1) := by
  obtain ⟨t, ht, hinv, hpend⟩ := h
  obtain ⟨u, hu⟩ := takeTurn_completes (turns n) hinv
  exact ⟨u, (afterTurns_succ ht).trans hu, inv_takeTurn hinv hu,
    takeTurn_keeps_tpend hinv hpend hreset htick hu⟩

/-- A pending tick waits until the first turn of the interrupt context, one of which comes `d` turns later. -/
theorem pendingAfter_until_tick {turns : Nat → Choice} {s : State} (hreset : ∀ n, turns n ≠ .reset) (d : Nat) :
    ∀ n, PendingAfter turns s n → turns (n + d) = .tick → ∃ m, n ≤ m ∧ turns m = .tick ∧ PendingAfter turns s m := by
  induction d with
  | zero => exact fun n hpend htick => ⟨n, le_rfl, htick, hpend⟩
  | succ d ih =>
    intro n hpend hlater
    by_cases htick : turns n = .tick
    · exact ⟨n, le_rfl, htick, hpend⟩
    · have hpend' := pendingAfter_succ hpend (hreset n) htick
      obtain ⟨m, hm, hnow⟩ := ih (n + 1) hpend' (by rwa [Nat.succ_add_eq_add_succ])
      exact ⟨m, by omega, hnow⟩

/-- Settles O43: after a turn of the tick source a tick is pending, and it waits for a turn of the interrupt context. -/
theorem fairTurnsKeepTheTimeBaseRunning : Obligations.FairTurnsKeepTheTimeBaseRunning := by
  intro turns s hfair hreset hinv n
  obtain ⟨f, hf, hfire⟩ := hfair .fire (by decide) n
  obtain ⟨k, hk, htick⟩ := hfair .tick (by decide) (f + 1)
  obtain ⟨d, rfl⟩ := Nat.exists_eq_add_of_le hk
  obtain ⟨m, hm, hnow, t, ht, ⟨-, -, ⟨hien, -⟩, -⟩, hpend⟩ :=
    pendingAfter_until_tick hreset d (f + 1) (pendingAfter_succ_of_fire hinv hfire) htick
  exact ⟨m, t, by omega, ht, hnow, hpend, hien⟩

end Sys2Proof.Machine
end

section
/-! The main loop: POLL as its two halves, the light side first (44_main_loop.md R150 to R154). -/

namespace Sys2Proof.Machine

/-! ### The two halves of POLL -/

theorem pollLight_due {s : State} (h : s.deadline ≤ s.ltick) : pollLight s = execAdvance s :=
  if_pos ((reaches_iff _ _).2 h)

theorem pollLight_waiting {s : State} (h : ¬s.deadline ≤ s.ltick) : pollLight s = .next s :=
  if_neg (mt (reaches_iff _ _).1 h)

theorem pollBuzzer_idle {s : State} (h : s.playing = false) : pollBuzzer s = execDispatch s :=
  if_neg (by simp [h])

theorem pollBuzzer_live {s : State} (h : s.playing = true) : pollBuzzer s = .next s := if_pos h

theorem execPoll_of_halves {s a d : State} (hlight : pollLight s = .next a) (hbuzzer : pollBuzzer a = .next d) :
    execPoll s = .next (toPhase .p1 d) := by
  rw [execPoll, hlight, andThen_next, hbuzzer, andThen_next]

/-- Settles O25: each half of POLL is its operation where it is due, and nothing otherwise. -/
theorem pollRunsTheDueWorkInOrder : Obligations.PollRunsTheDueWorkInOrder := by
  intro s a d hadvance hdispatch
  have hlight : pollLight s = .next a := by
    by_cases hdue : s.deadline ≤ s.ltick
    · rw [if_pos hdue] at hadvance
      exact (pollLight_due hdue).trans hadvance
    · rw [if_neg hdue] at hadvance
      rw [pollLight_waiting hdue, hadvance]
  have hbuzzer : pollBuzzer a = .next d := by
    by_cases hidle : a.playing = false
    · rw [if_pos hidle] at hdispatch
      exact (pollBuzzer_idle hidle).trans hdispatch
    · rw [if_neg hidle] at hdispatch
      rw [pollBuzzer_live (Bool.not_eq_false _ ▸ hidle), hdispatch]
  exact execPoll_of_halves hlight hbuzzer

/-! ### Completion and frame -/

/-- What neither ADVANCE nor DISPATCH writes: the playback state and the timer (60_exceptions.md R175), the local value `hit`, the
tables and the model's own fields. -/
abbrev outsidePart (s : State) :=
  (s.dcnt, s.scnt, s.ocnt, s.insil, s.buz, s.ien, s.tpend, s.tarm, s.hit, s.cfg, s.sched, s.draw)

/-- The light side: the sequencer's registers, and the tick count it clears (41_light_sequencer.md R110). -/
abbrev lightPart (s : State) := (s.psel, s.pidx, s.prep, s.ptgt, s.deadline, s.led, s.ltick)

/-- The buzzer side: the tone scheduler's registers and the task it dispatches (42_tone_scheduler.md R120). -/
abbrev buzzerPart (s : State) := (s.msel, s.midx, s.beat, s.tHp, s.tAd, s.tPs, s.playing)

theorem execAdvance_frame {s t : State} (h : execAdvance s = .next t) :
    outsidePart t = outsidePart s ∧ buzzerPart t = buzzerPart s ∧ t.ltick = 0 := by
  obtain ⟨w, -, hw⟩ := execAdvance_eq_next_iff.1 h
  obtain ⟨len, -, rfl⟩ := execStep_eq_next_iff.1 hw
  simp

theorem subS1_frame {s u : State} (h : subS1 s = .next u) :
    outsidePart u = outsidePart s ∧ lightPart u = lightPart s := by
  rcases subS1_eq_next_iff.1 h with ⟨-, rfl⟩ | ⟨-, b, -, rfl⟩ <;> exact ⟨rfl, rfl⟩

theorem execNoteOf_frame {sym : BitVec 4} {du : BitVec 12} {s t : State} (h : execNoteOf sym du s = .next t) :
    outsidePart t = outsidePart s ∧ lightPart t = lightPart s := by
  rw [execNoteOf_eq] at h
  by_cases hsym : sym.toNat ≤ 9
  · rw [if_pos hsym] at h
    obtain ⟨-, len, -, rfl⟩ := (noteHit_eq_next_iff hsym).1 h
    simp
  · rw [if_neg hsym] at h
    obtain ⟨-, len, -, rfl⟩ := noteMiss_eq_next_iff.1 h
    simp

theorem execDispatch_frame {s t : State} (h : execDispatch s = .next t) :
    outsidePart t = outsidePart s ∧ lightPart t = lightPart s := by
  obtain ⟨-, u, hu, e, -, hn⟩ := execDispatch_eq_next_iff.1 h
  obtain ⟨houtside, hlight⟩ := subS1_frame hu
  obtain ⟨houtside', hlight'⟩ := execNoteOf_frame hn
  exact ⟨houtside'.trans houtside, hlight'.trans hlight⟩

/-- The light half moves neither `PLAYING` nor `hit`. -/
theorem pollLight_playing_hit {s a : State} (h : pollLight s = .next a) : a.playing = s.playing ∧ a.hit = s.hit := by
  by_cases hdue : s.deadline ≤ s.ltick
  · rw [pollLight_due hdue] at h
    obtain ⟨houtside, hbuzzer, -⟩ := execAdvance_frame h
    simp only [Prod.mk.injEq] at houtside hbuzzer
    exact ⟨by simp [hbuzzer], by simp [houtside]⟩
  · rw [pollLight_waiting hdue] at h
    cases h
    exact ⟨rfl, rfl⟩

/-- After the pick a pattern is selected with its cursor inside it, so ADVANCE finds its word (20_memory.md R62). -/
theorem execAdvance_completes {s : State} (h : DataOk s) : ∃ t, execAdvance s = .next t := by
  obtain ⟨-, -, hpat, -⟩ := dataOk_subA1 h
  obtain ⟨len, w, hlen, hw⟩ := pattern_readable hpat (subA1_psel_ne_none s)
  exact ⟨_, execAdvance_eq_next_iff.2 ⟨w, by simpa using hw, execStep_eq_next_iff.2 ⟨len, hlen, rfl⟩⟩⟩

theorem execNoteOf_completes {s : State} {len : Nat} (sym : BitVec 4) (du : BitVec 12) (hidle : s.playing = false)
    (hlen : melodyLength s.cfg.mem s.msel = some len) : ∃ t, execNoteOf sym du s = .next t := by
  rw [execNoteOf_eq]
  by_cases hsym : sym.toNat ≤ 9
  · exact ⟨_, by rw [if_pos hsym]; exact (noteHit_eq_next_iff hsym).2 ⟨hidle, len, hlen, rfl⟩⟩
  · exact ⟨_, by rw [if_neg hsym]; exact noteMiss_eq_next_iff.2 ⟨hidle, len, hlen, rfl⟩⟩

/-- After the pick a melody is selected with its cursor inside it, so DISPATCH finds its entry (20_memory.md R62). -/
theorem execDispatch_completes {s : State} (h : DataOk s) (hidle : s.playing = false) : ∃ t, execDispatch s = .next t := by
  obtain ⟨u, hu⟩ := subS1_completes s
  obtain ⟨-, -, -, hmel, -⟩ := dataOk_subS1 h hu
  obtain ⟨len, e, hlen, he⟩ := melody_readable hmel (subS1_msel_ne_none hu)
  obtain ⟨t, ht⟩ := execNoteOf_completes (noteSym e) (noteDu e) ((subS1_playing hu).trans hidle) hlen
  exact ⟨t, execDispatch_eq_next_iff.2 ⟨hidle, u, hu, e, he, ht⟩⟩

/-- The light half, due or not, keeps the buzzer side (44_main_loop.md R151). -/
theorem pollLight_completes {s : State} (h : DataOk s) :
    ∃ a, pollLight s = .next a ∧ DataOk a ∧ outsidePart a = outsidePart s ∧ buzzerPart a = buzzerPart s ∧
      (¬s.deadline ≤ s.ltick → a = s) ∧ (s.deadline ≤ s.ltick → a.ltick = 0) := by
  by_cases hdue : s.deadline ≤ s.ltick
  · obtain ⟨a, ha⟩ := execAdvance_completes h
    obtain ⟨houtside, hbuzzer, hclear⟩ := execAdvance_frame ha
    exact ⟨a, (pollLight_due hdue).trans ha, dataOk_execAdvance h ha, houtside, hbuzzer, fun hwait => absurd hdue hwait,
      fun _ => hclear⟩
  · exact ⟨s, pollLight_waiting hdue, h, rfl, rfl, fun _ => rfl, fun h' => absurd h' hdue⟩

/-- The buzzer half, idle or not, keeps the light side (44_main_loop.md R152). -/
theorem pollBuzzer_completes {a : State} (h : DataOk a) :
    ∃ d, pollBuzzer a = .next d ∧ DataOk d ∧ outsidePart d = outsidePart a ∧ lightPart d = lightPart a ∧
      (a.playing = true → d = a) := by
  cases hp : a.playing with
  | false =>
    obtain ⟨d, hd⟩ := execDispatch_completes h hp
    obtain ⟨houtside, hlight⟩ := execDispatch_frame hd
    exact ⟨d, (pollBuzzer_idle hp).trans hd, dataOk_execDispatch h hd, houtside, hlight, nofun⟩
  | true => exact ⟨a, pollBuzzer_live hp, h, rfl, rfl, fun _ => rfl⟩

/-- Settles O26: each half keeps the other half's side, and neither writes what is outside both. -/
theorem pollCompletes : Obligations.PollCompletes := by
  intro s h
  obtain ⟨a, ha, hdata, houtside, hbuzzer, hwait, hclear⟩ := pollLight_completes h
  obtain ⟨d, hd, hdata', houtside', hlight', hlive⟩ := pollBuzzer_completes hdata
  have hout : outsidePart d = outsidePart s := houtside'.trans houtside
  have hlight : s.ltick < s.deadline → lightPart d = lightPart s := fun hlt =>
    hlight'.trans (congrArg lightPart (hwait (BitVec.not_le.2 hlt)))
  have hltick : s.deadline ≤ s.ltick → d.ltick = 0 := fun hdue => by
    simp only [Prod.mk.injEq] at hlight'
    obtain ⟨-, -, -, -, -, -, hl⟩ := hlight'
    exact hl.trans (hclear hdue)
  have hbuz : s.playing = true → buzzerPart d = buzzerPart s := fun hp => by
    obtain ⟨hplaying, -⟩ := pollLight_playing_hit ha
    rw [hlive (hplaying.trans hp), hbuzzer]
  refine ⟨toPhase .p1 d, execPoll_of_halves ha hd, hdata', rfl, ?_⟩
  simp only [Prod.mk.injEq] at hout hlight hbuz
  obtain ⟨hdcnt, hscnt, hocnt, hinsil, hbuzLine, hien, htpend, htarm, hhit, hcfg, hsched, hdraw⟩ := hout
  exact ⟨hdcnt, hscnt, hocnt, hinsil, hbuzLine, hien, htpend, htarm, hhit, hcfg, hsched, hdraw, hlight, hltick,
    fun hp => by simpa [hp] using hbuz hp⟩

/-! ### The first iteration after reset -/

/-- ADVANCE clears `LTICK` last and reads it nowhere, so it does not depend on it (41_light_sequencer.md R115). -/
theorem execAdvance_withLtick {s t : State} (v : Word) (h : execAdvance s = .next t) :
    execAdvance { s with ltick := v } = .next t := by
  have hpick : subA1 { s with ltick := v } = { subA1 s with ltick := v } := by
    by_cases hsel : s.psel = selNone <;> simp [subA1, hsel, drawNext]
  obtain ⟨w, hw, hstep⟩ := execAdvance_eq_next_iff.1 h
  obtain ⟨len, hlen, rfl⟩ := execStep_eq_next_iff.1 hstep
  rw [execAdvance_eq_next_iff, hpick]
  refine ⟨w, hw, execStep_eq_next_iff.2 ⟨len, hlen, ?_⟩⟩
  simp [stepPatternCursor_eq, emitLines, setDeadline, subA5, clearTicks]

/-- A deadline of 0 is reached whatever the tick count is, and the due ADVANCE forgets the count. -/
theorem execPoll_withLtick {s t : State} (hzero : s.deadline = 0) (v : Word) (h : execPoll s = .next t) :
    execPoll { s with ltick := v } = .next t := by
  have hdue : ∀ c : Word, s.deadline ≤ c := fun c => hzero ▸ Nat.zero_le c.toNat
  obtain ⟨a, d, hlight, hbuzzer⟩ := execPoll_eq_next_iff.1 h
  rw [if_pos (hdue _)] at hlight
  exact execPoll_eq_next_iff.2 ⟨a, d, (if_pos (hdue v)).mpr (execAdvance_withLtick v hlight), hbuzzer⟩

/-- After reset no task is live and the timer is armed: ticks only count (43_tick_playback.md R132). -/
theorem iterate_tickBody_resetOf (c : Params) (n : Nat) :
    tickBody^[n] (State.resetOf c) = { State.resetOf c with ltick := BitVec.ofNat 32 n } := by
  induction n with
  | zero => rfl
  | succ n ih =>
    rw [Function.iterate_succ_apply', ih, tickBody_idle rfl, BitVec.ofNat_add]
    rfl

/-- Settles O28: after reset ticks change only `LTICK`, and the first iteration finds the deadline reached and clears it. -/
theorem ticksDuringBootLeaveNoTrace : Obligations.TicksDuringBootLeaveNoTrace := by
  intro c n hc
  obtain ⟨u, hu, -⟩ := pollCompletes _ (dataOk_resetOf hc)
  refine ⟨_, u, repeatOp_tick n _, ?_, hu⟩
  rw [iterate_tickBody_resetOf]
  exact execPoll_withLtick rfl _ hu

/-- ADVANCE right after reset: the first draw picks the pattern, whose first step is lit (41_light_sequencer.md R110, R111). -/
theorem exec_advance_resetOf {c : Params} {p : Fin 3} {w : Elem} (hp : (Claims.generator c.seed).toNat % 3 = p.val)
    (hw : c.mem.pattern[p][0]? = some w) :
    ∃ a, exec .advance (State.resetOf c) = .next a ∧ a.rng = Claims.generator c.seed ∧ a.led = BitVec.ofNat 9 w.toNat ∧
      a.deadline.toNat = w.toNat / 512 * 2000 ∧ a.ltick = 0 ∧ a.msel = selNone ∧ a.midx = 0 ∧ a.playing = false ∧
      a.cfg = c := by
  have hdeadline : (BitVec.ofNat 32 ((BitVec.ofNat 7 (w.toNat / 512)).toNat * 2000)).toNat = w.toNat / 512 * 2000 := by
    rw [← stepMult_eq_ofNat, ← deadlineOf_eq_ofNat, deadlineOf_toNat, stepMult_toNat]
  exact ⟨_, advancePicksAndEmitsTheCurrentStep (State.resetOf c) p w hp hw, rfl, rfl, hdeadline, rfl, rfl, rfl, rfl, rfl⟩

/-- From 16-bit operands the half-period and the post-silence do not wrap; the duration may (30_encoding.md R87). -/
theorem withTask_thresholds {v beat : Nat} (hv : v < 65536) (hbeat : beat < 65536) (du : Nat) (s : State) :
    (Claims.withTask v du beat s).tHp.toNat = v / 50 ∧ (Claims.withTask v du beat s).tAd = BitVec.ofNat 32 (du * beat * 20) ∧
      (Claims.withTask v du beat s).tPs.toNat = beat * 10 :=
  ⟨(BitVec.toNat_ofNat _ _).trans (Nat.mod_eq_of_lt (by omega)), rfl,
    (BitVec.toNat_ofNat _ _).trans (Nat.mod_eq_of_lt (by omega))⟩

/-- DISPATCH at rest: the draw picks the melody, whose first note is dispatched or skipped (42_tone_scheduler.md R120, R121). -/
theorem exec_dispatch_unselected {s : State} {m : Fin 2} {e : Elem} (hidle : s.playing = false) (hsel : s.msel = selNone)
    (hmidx : s.midx = 0) (hm : (Claims.generator s.rng).toNat % 2 = m.val)
    (he : s.cfg.mem.melody[m].notes[0]? = some e) :
    ∃ d, exec .dispatch s = .next d ∧ d.rng = Claims.generator s.rng ∧ d.beat = s.cfg.mem.melody[m].beat ∧
      d.playing = decide (e.toNat % 16 ≤ 9) ∧
      ∀ k : Fin 10, e.toNat % 16 = k.val → d.tHp.toNat = s.cfg.mem.noteVal[k].toNat / 50 ∧
        d.tAd = BitVec.ofNat 32 (e.toNat / 16 * d.beat.toNat * 20) ∧ d.tPs.toNat = d.beat.toNat * 10 := by
  obtain ⟨hhit, hmiss⟩ := dispatchPicksAndDispatchesTheCurrentNote s m e hidle ((if_pos hsel).mpr hm) (by rwa [hmidx]) _ rfl
  by_cases hsym : e.toNat % 16 ≤ 9
  · have hd := hhit ⟨e.toNat % 16, Nat.lt_succ_of_le hsym⟩ rfl
    refine ⟨_, hd, if_pos hsel, if_pos hsel, (decide_eq_true hsym).symm, fun k hk => ?_⟩
    obtain rfl : ⟨e.toNat % 16, Nat.lt_succ_of_le hsym⟩ = k := Fin.ext hk
    exact withTask_thresholds (BitVec.isLt _) (BitVec.isLt _) _ s
  · have hd := hmiss (Nat.lt_of_not_le hsym)
    refine ⟨_, hd, if_pos hsel, if_pos hsel, hidle.trans (decide_eq_false hsym).symm, fun k hk => ?_⟩
    exact absurd (hk.trans_le (Nat.le_of_lt_succ k.isLt)) hsym

/-- Settles O27: the light side is due at reset and picks by the first draw (O16), the idle buzzer side by the second (O22). -/
theorem firstPollAfterResetStartsLightsThenBuzzer : Obligations.FirstPollAfterResetStartsLightsThenBuzzer := by
  intro c p m w e hc hp hm hw he
  obtain ⟨a, ha, hrng, hled, hdeadline, hltick, hsel, hmidx, hidle, hcfg⟩ := exec_advance_resetOf hp hw
  obtain ⟨d, hd, hrng', hbeat, hplaying, htask⟩ :=
    exec_dispatch_unselected hidle hsel hmidx (by rwa [hrng]) (by rwa [hcfg])
  obtain ⟨-, hlight⟩ := execDispatch_frame hd
  simp only [Prod.mk.injEq] at hlight
  obtain ⟨-, -, -, -, hdeadline', hled', hltick'⟩ := hlight
  have hpoll := pollRunsTheDueWorkInOrder (State.resetOf c) a d ha ((if_pos hidle).mpr hd)
  rw [hcfg] at hbeat htask
  exact ⟨_, hpoll, hrng'.trans (congrArg _ hrng), hled'.trans hled, (congrArg _ hdeadline').trans hdeadline,
    hltick'.trans hltick, hbeat, rfl, hplaying, htask⟩

/-! ### The main context's turn -/

/-- A step in which an agent moves is that agent's turn (60_exceptions.md R160). -/
theorem step_of_mover {s : State} {c : Choice} (h : mover s = some c) : step s = takeTurn c (taken s) := by
  match hs : s.sched with
  | .op code :: rest => simp [mover, hs] at h
  | .turn c' :: rest =>
    obtain rfl : c' = c := by simpa [mover, hs] using h
    simp [step, hs, taken_cons hs]
  | [] =>
    obtain rfl : Config.freeChoice s.draw = c := by simpa [mover, hs] using h
    simp [step, hs, taken_nil hs]

/-- Settles O29: a turn of the main context is `mainStep`, which ends by the move to the successor. -/
theorem mainContextFollowsTheSuccessorRelation : Obligations.MainContextFollowsTheSuccessorRelation := by
  refine ⟨fun s hmain => step_of_mover hmain, fun s t ht => ?_⟩
  obtain ⟨u, -, rfl⟩ := mainStep_eq_next_iff.1 ht
  cases hm : s.mph with
  | p1 => simp [nextPhase, hm, lightDue]
  | p2 => cases hp : s.playing <;> simp [nextPhase, hm, hp]
  | boot | a1 | a2 | a3 | a4 | a5 | s1 | s2 | s3 | s4 => simp [nextPhase, hm]

/-! ### The sub-steps of an iteration -/

theorem mainSteps_add (m n : Nat) (s : State) : mainSteps (m + n) s = andThen (mainSteps m s) (mainSteps n) := by
  induction m generalizing s with
  | zero => rw [Nat.zero_add]; rfl
  | succ m ih => rw [Nat.succ_add, mainSteps, mainSteps, andThen_assoc, funext ih]

/-- What follows an operation matters only on the state it leaves. -/
theorem andThen_congr {r : Result} {f g : State → Result} (h : ∀ t, r = .next t → f t = g t) :
    andThen r f = andThen r g := by
  cases r with
  | next t => exact h t rfl
  | fault x => rfl
  | refused x => rfl

theorem toPhase_toPhase (p q : MainPhase) (s : State) : toPhase p (toPhase q s) = toPhase p s := rfl

theorem subA1_toPhase (p : MainPhase) (s : State) : subA1 (toPhase p s) = toPhase p (subA1 s) := by
  by_cases hsel : s.psel = selNone <;> simp [subA1, hsel, drawNext, toPhase]

theorem subS1_toPhase {s u : State} (p : MainPhase) (h : subS1 s = .next u) : subS1 (toPhase p s) = .next (toPhase p u) := by
  rcases subS1_eq_next_iff.1 h with ⟨hsel, rfl⟩ | ⟨hsel, b, hb, rfl⟩
  · exact subS1_selected hsel
  · exact subS1_eq_next_iff.2 (.inr ⟨hsel, b, hb, rfl⟩)

/-- From P1 to P2 the sub-steps are the light half of POLL: A1 to A5 where the deadline is reached, none otherwise. -/
theorem mainSteps_p1_to_p2 {s : State} (hm : s.mph = .p1) :
    mainSteps (1 + if s.deadline ≤ s.ltick then 5 else 0) s = andThen (pollLight s) fun a => .next (toPhase .p2 a) := by
  by_cases hdue : s.deadline ≤ s.ltick
  · have htest : mainStep s = .next (toPhase .a1 s) := by simp [mainStep, hm, lightDue, hdue]
    have hpick : mainStep (toPhase .a1 s) = .next (toPhase .a2 (subA1 s)) := by
      simp [mainStep, subA1_toPhase, toPhase_toPhase]
    rw [if_pos hdue, pollLight_due hdue, mainSteps, htest, andThen_next, mainSteps, hpick, andThen_next, mainSteps_a2_to_a5,
      execAdvance]
  · have htest : mainStep s = .next (toPhase .p2 s) := by simp [mainStep, hm, lightDue, hdue]
    rw [if_neg hdue, pollLight_waiting hdue, mainSteps, htest]
    rfl

/-- From P2 to P1 the sub-steps are the buzzer half of POLL: S1 to S4 where no task is live, none otherwise. `hit` is left by P2 and
cleared by S3 (log entry 6). -/
theorem mainSteps_p2_to_p1 (a : State) :
    mainSteps (1 + if a.playing = false then 4 else 0) (toPhase .p2 a) =
      andThen (pollBuzzer a) fun d => .next { d with mph := .p1, hit := a.playing && a.hit } := by
  cases hp : a.playing with
  | false =>
    obtain ⟨u, hu⟩ := subS1_completes a
    have htest : mainStep (toPhase .p2 a) = .next (toPhase .s1 a) := by simp [mainStep, hp, toPhase]
    have hpick : mainStep (toPhase .s1 a) = .next (toPhase .s2 u) := by
      simp [mainStep, subS1_toPhase _ hu, toPhase_toPhase]
    rw [if_pos rfl, pollBuzzer_idle hp, mainSteps, htest, andThen_next, mainSteps, hpick, andThen_next,
      mainSteps_s2_to_s4 ((subS1_playing hu).trans hp), execDispatch, whenIdle_idle hp, hu, andThen_next]
    rfl
  | true =>
    have htest : mainStep (toPhase .p2 a) = .next (toPhase .p1 a) := by simp [mainStep, hp, toPhase]
    rw [if_neg (by simp), pollBuzzer_live hp, mainSteps, htest]
    rfl

/-- Settles O33: the sub-steps from P1 to P2 are the one half of POLL, those from P2 back to P1 the other. -/
theorem pollIsItsSubSteps : Obligations.PollIsItsSubSteps := by
  intro s hm
  have hsplit : 2 + (if s.deadline ≤ s.ltick then 5 else 0) + (if s.playing = false then 4 else 0) =
      (1 + if s.deadline ≤ s.ltick then 5 else 0) + (1 + if s.playing = false then 4 else 0) := by omega
  rw [hsplit, mainSteps_add, mainSteps_p1_to_p2 hm, exec, execPoll, andThen_assoc, andThen_assoc]
  refine andThen_congr fun a ha => ?_
  obtain ⟨hplaying, hhit⟩ := pollLight_playing_hit ha
  rw [andThen_next, ← hplaying, mainSteps_p2_to_p1, andThen_assoc, hhit]
  rfl

end Sys2Proof.Machine
end

section
/-! The interrupt and the interleaving (60_exceptions.md R162 to R168, R175): the turns of the tick source and of the interrupt context,
what a sub-step does to the registers a tick writes, and the tick step past a sub-step. -/

namespace Sys2Proof.Machine

/-! ### The turns of the tick source and of the interrupt context -/

/-- Settles O34: the step is `fireTurn`, whose two branches are the two clauses. -/
theorem tickSourceFiresWhenArmed : Obligations.TickSourceFiresWhenArmed := by
  intro s hfire
  rw [step_of_mover hfire]
  exact ⟨fun harm => fireTurn_eq_next_iff.2 (.inl ⟨by simpa using harm, rfl⟩),
    fun harm => fireTurn_eq_next_iff.2 (.inr ⟨by simpa using harm, rfl⟩)⟩

/-- Settles O35: the step is `tickTurn`; between entry and return TICK leaves `MPH` and `IEN` as it finds them. -/
theorem pendingTickIsTakenWhole : Obligations.PendingTickIsTakenWhole := by
  intro s htick
  rw [step_of_mover htick]
  refine ⟨fun hpend hien => ⟨tickBody (interruptEntry (taken s)), rfl, by simp, by simp, ?_⟩, fun hidle => ?_⟩
  · exact tickTurn_eq_next_iff.2 (.inl ⟨by simpa using hpend, by simpa using hien, rfl⟩)
  · exact tickTurn_eq_next_iff.2 (.inr ⟨by simpa using hidle, rfl⟩)

/-! ### The registers a tick writes -/

/-- `s` with the ten registers a tick step writes (60_exceptions.md R163 to R166, 43_tick_playback.md R143) as `k` has them. -/
def withTickRegs (k s : State) : State := { s with
  playing := k.playing, ltick := k.ltick, dcnt := k.dcnt, scnt := k.scnt, ocnt := k.ocnt, insil := k.insil, buz := k.buz
  ien := k.ien, tpend := k.tpend, tarm := k.tarm }

theorem withTickRegs_self (s : State) : withTickRegs s s = s := rfl

/-- What the sub-step at `p` writes of these registers: A5 the clear of `LTICK`, S3 the handoff (20_memory.md R70, R71). -/
def sharedWrites (p : MainPhase) (hit : Bool) (k : State) : State :=
  match p with
  | .a5 => clearTicks k
  | .s3 => goLive hit k
  | _ => k

theorem sharedWrites_eq_self {p : MainPhase} (hit : Bool) (k : State) (ha5 : p ≠ .a5) (hs3 : p ≠ .s3) :
    sharedWrites p hit k = k := by
  cases p with
  | a5 => exact absurd rfl ha5
  | s3 => exact absurd rfl hs3
  | boot | p1 | a1 | a2 | a3 | a4 | p2 | s1 | s2 | s4 => rfl

/-! ### A sub-step under other tick registers -/

theorem andThen_readThen (s : State) (a : TableAddr) (f : Elem → Result) (g : State → Result) :
    andThen (readThen s a f) g = readThen s a fun w => andThen (f w) g := by
  cases h : memRead s.cfg.mem a with
  | some w => rw [readThen_some h, readThen_some h]
  | none => rw [readThen_none h, readThen_none h, andThen_refused]

theorem subA1_withTickRegs (k s : State) : subA1 (withTickRegs k s) = withTickRegs k (subA1 s) := by
  by_cases hsel : s.psel = selNone <;> simp [subA1, hsel, drawNext, withTickRegs]

theorem subA4_withTickRegs (k s : State) :
    subA4 (withTickRegs k s) = andThen (subA4 s) fun u => .next (withTickRegs k u) := by
  cases hlen : patternLength s.cfg.mem s.psel <;> simp [subA4, hlen, stepPatternCursor_eq, withTickRegs]

theorem subS1_withTickRegs (k s : State) :
    subS1 (withTickRegs k s) = andThen (subS1 s) fun u => .next (withTickRegs k u) := by
  by_cases hsel : s.msel = selNone
  · have hsel' : (withTickRegs k s).msel = selNone := hsel
    rw [subS1, if_pos hsel', subS1, if_pos hsel, andThen_readThen]
    rfl
  · rw [subS1_selected hsel, subS1_selected (s := withTickRegs k s) hsel, andThen_next]

theorem noteTask_withTickRegs (sym : BitVec 4) (du : BitVec 12) (k s : State) :
    noteTask sym du (withTickRegs k s) = andThen (noteTask sym du s) fun u => .next (withTickRegs k u) := by
  by_cases h : sym.toNat ≤ 9
  · rw [noteTask_hit _ _ _ h, noteTask_hit _ _ _ h]
    rfl
  · rw [noteTask_miss _ _ _ h, noteTask_miss _ _ _ h, andThen_next]

theorem subS2_withTickRegs (k s : State) :
    subS2 (withTickRegs k s) = andThen (subS2 s) fun u => .next (withTickRegs k u) := by
  rw [subS2, subS2, andThen_readThen]
  refine congrArg (readThen s (noteAddr s)) (funext fun e => ?_)
  rw [noteTask_withTickRegs, andThen_assoc, andThen_assoc]
  rfl

theorem subS4_withTickRegs (k s : State) :
    subS4 (withTickRegs k s) = andThen (subS4 s) fun u => .next (withTickRegs k u) := by
  cases hlen : melodyLength s.cfg.mem s.msel <;> simp [subS4, hlen, stepMelodyCursor_eq, withTickRegs]

/-- No sub-step reads a register that a tick writes; what it writes of them depends on no other register but `hit`
(60_exceptions.md R175). -/
theorem subStep_withTickRegs (p : MainPhase) (k s : State) :
    subStep p (withTickRegs k s) = andThen (subStep p s) fun u => .next (withTickRegs (sharedWrites p s.hit k) u) := by
  cases p with
  | boot | p1 | p2 | a5 | s3 => rfl
  | a1 => exact congrArg Host.Outcome.next (subA1_withTickRegs k s)
  | a2 =>
    rw [subStep, subStep, subA2, subA2, andThen_readThen]
    rfl
  | a3 =>
    rw [subStep, subStep, subA3, subA3, andThen_readThen]
    rfl
  | a4 => exact subA4_withTickRegs k s
  | s1 => exact subS1_withTickRegs k s
  | s2 => exact subS2_withTickRegs k s
  | s4 => exact subS4_withTickRegs k s

/-- What a completed sub-step leaves in the registers a tick writes. -/
theorem subStep_tickRegs {p : MainPhase} {s u : State} (h : subStep p s = .next u) :
    u = withTickRegs (sharedWrites p s.hit s) u := by
  have hself := subStep_withTickRegs p s s
  rw [withTickRegs_self, h, andThen_next] at hself
  exact Host.Outcome.next.inj hself

/-! ### The tick step past a sub-step -/

/-- What a tick step leaves: entry, one whole TICK, return (60_exceptions.md R163 to R166). -/
def ticked (s : State) : State := interruptReturn (tickBody (interruptEntry s))

theorem interruptStep_eq (s : State) : interruptStep s = .next (ticked s) := rfl

/-- TICK reads, of the registers it does not write, only the thresholds, and these only while a task is live
(43_tick_playback.md R130 to R137). -/
theorem tickBody_withTickRegs {s u : State} (h : s.playing = true → u.tHp = s.tHp ∧ u.tAd = s.tAd ∧ u.tPs = s.tPs) :
    tickBody (withTickRegs s u) = withTickRegs (tickBody s) u := by
  cases hp : s.playing with
  | false =>
    rw [tickBody_idle hp, tickBody_idle (s := withTickRegs s u) hp]
    rfl
  | true =>
    obtain ⟨hHp, hAd, hPs⟩ := h hp
    cases hi : s.insil with
    | true =>
      by_cases hexit : u.tPs < s.scnt + 1
      · rw [tickBody_postSilence_exit (s := withTickRegs s u) hp hi hexit,
          tickBody_postSilence_exit hp hi (hPs ▸ hexit)]
        rfl
      · rw [tickBody_postSilence_stay (s := withTickRegs s u) hp hi hexit,
          tickBody_postSilence_stay hp hi (hPs ▸ hexit)]
        rfl
    | false =>
      by_cases hexit : u.tAd < s.dcnt + 1
      · rw [tickBody_active_exit (s := withTickRegs s u) hp hi hexit, tickBody_active_exit hp hi (hAd ▸ hexit)]
        rfl
      by_cases hrest : u.tHp = 0
      · rw [tickBody_active_rest (s := withTickRegs s u) hp hi hexit hrest,
          tickBody_active_rest hp hi (hAd ▸ hexit) (hHp ▸ hrest)]
        rfl
      by_cases hinvert : u.tHp < s.ocnt + 1
      · rw [tickBody_active_invert (s := withTickRegs s u) hp hi hexit hrest hinvert,
          tickBody_active_invert hp hi (hAd ▸ hexit) (hHp ▸ hrest) (hHp ▸ hinvert)]
        rfl
      · rw [tickBody_active_count (s := withTickRegs s u) hp hi hexit hrest hinvert,
          tickBody_active_count hp hi (hAd ▸ hexit) (hHp ▸ hrest) (hHp ▸ hinvert)]
        rfl

theorem ticked_withTickRegs {s u : State} (h : s.playing = true → u.tHp = s.tHp ∧ u.tAd = s.tAd ∧ u.tPs = s.tPs) :
    ticked (withTickRegs s u) = withTickRegs (ticked s) u :=
  congrArg interruptReturn (tickBody_withTickRegs (s := interruptEntry s) h)

/-- A tick step writes no register but the ten. -/
theorem ticked_eq_withTickRegs (s : State) : ticked s = withTickRegs (ticked s) s :=
  ticked_withTickRegs (u := s) fun _ => ⟨rfl, rfl, rfl⟩

theorem mainStep_eq_subStep (s : State) :
    mainStep s = andThen (subStep s.mph s) fun u => .next (toPhase (nextPhase s) u) := by
  cases hm : s.mph <;> simp [mainStep, hm, subStep, nextPhase]

theorem nextPhase_withTickRegs {s : State} (k : State) (hp1 : s.mph ≠ .p1) (hp2 : s.mph ≠ .p2) :
    nextPhase (withTickRegs k s) = nextPhase s := by
  have hmph : (withTickRegs k s).mph = s.mph := rfl
  cases hm : s.mph with
  | p1 => exact absurd hm hp1
  | p2 => exact absurd hm hp2
  | boot | a1 | a2 | a3 | a4 | a5 | s1 | s2 | s3 | s4 => simp [nextPhase, hmph, hm]

/-- At the sub-steps that share nothing with the tick, a turn of the main context passes the tick's registers through. -/
theorem mainStep_withTickRegs {s : State} (k : State) (hp1 : s.mph ≠ .p1) (ha5 : s.mph ≠ .a5) (hp2 : s.mph ≠ .p2)
    (hs3 : s.mph ≠ .s3) : mainStep (withTickRegs k s) = andThen (mainStep s) fun t => .next (withTickRegs k t) := by
  have hsub : subStep s.mph (withTickRegs k s) = andThen (subStep s.mph s) fun u => .next (withTickRegs k u) := by
    rw [subStep_withTickRegs, sharedWrites_eq_self _ _ ha5 hs3]
  rw [mainStep_eq_subStep, nextPhase_withTickRegs k hp1 hp2, mainStep_eq_subStep s, andThen_assoc]
  exact (congrArg (andThen · _) hsub).trans (andThen_assoc _ _ _)

/-- Settles O36: such a sub-step leaves what the tick reads, and carries what the tick has written past unread. -/
theorem tickCommutesWithPrivateSubSteps : Obligations.TickCommutesWithPrivateSubSteps := by
  intro s hp1 ha5 hp2 hs3 hidle
  have hafter : ∀ t, mainStep s = .next t → interruptStep t = .next (withTickRegs (ticked s) t) := by
    intro t ht
    obtain ⟨u, hu, rfl⟩ := mainStep_eq_next_iff.1 ht
    obtain ⟨-, -, htask⟩ := subStep_cfg_and_handoff hu
    have hregs := subStep_tickRegs hu
    rw [sharedWrites_eq_self _ _ ha5 hs3] at hregs
    have hreads : s.playing = true → u.tHp = s.tHp ∧ u.tAd = s.tAd ∧ u.tPs = s.tPs :=
      fun hlive => htask fun hs2 => by simp [hidle hs2] at hlive
    have htoPhase : toPhase (nextPhase s) u = withTickRegs s (toPhase (nextPhase s) u) :=
      congrArg (toPhase (nextPhase s)) hregs
    rw [interruptStep_eq, htoPhase, ticked_withTickRegs (u := toPhase (nextPhase s) u) hreads]
    rfl
  calc andThen (mainStep s) interruptStep
      = andThen (mainStep s) fun t => .next (withTickRegs (ticked s) t) := andThen_congr hafter
    _ = mainStep (withTickRegs (ticked s) s) := (mainStep_withTickRegs _ hp1 ha5 hp2 hs3).symm
    _ = mainStep (ticked s) := by rw [← ticked_eq_withTickRegs]
    _ = andThen (interruptStep s) mainStep := rfl

/-! ### Who writes what -/

theorem taken_eq_with_sched_draw (s : State) : taken s = { s with sched := (taken s).sched, draw := (taken s).draw } := by
  unfold taken
  split <;> rfl

theorem sharedWrites_frame (p : MainPhase) (hit : Bool) (k : State) :
    (sharedWrites p hit k).dcnt = k.dcnt ∧ (sharedWrites p hit k).scnt = k.scnt ∧ (sharedWrites p hit k).ocnt = k.ocnt ∧
    (sharedWrites p hit k).insil = k.insil ∧ (sharedWrites p hit k).buz = k.buz ∧ (sharedWrites p hit k).tarm = k.tarm ∧
    (sharedWrites p hit k).tpend = k.tpend ∧ (sharedWrites p hit k).ien = k.ien ∧
    (k.playing = true → (sharedWrites p hit k).playing = true) ∧
    ((sharedWrites p hit k).ltick = k.ltick ∨ (sharedWrites p hit k).ltick = 0) := by
  cases p with
  | a5 => simp [sharedWrites]
  | s3 => simp +contextual [sharedWrites]
  | boot | p1 | a1 | a2 | a3 | a4 | p2 | s1 | s2 | s4 => simp [sharedWrites]

/-- Settles O37: a tick keeps to its frame, a sub-step writes of the tick's registers what A5 and S3 do, a fire the timer's two. -/
theorem contextsWriteOnlyTheirOwnRegisters : Obligations.ContextsWriteOnlyTheirOwnRegisters := by
  intro s t ht
  refine ⟨fun htick => ?_, fun hmain => ?_, fun hfire => ?_⟩
  · rw [step_of_mover htick] at ht
    obtain ⟨-, -, rfl⟩ | ⟨-, rfl⟩ := tickTurn_eq_next_iff.1 ht
    · have hplaying : (tickBody (interruptEntry (taken s))).playing = true → s.playing = true := fun hlive => by
        by_contra hidle
        simp [tickBody_playing_of_idle (s := interruptEntry (taken s)) (by simpa using hidle)] at hlive
      simpa using hplaying
    · simp
  · rw [step_of_mover hmain] at ht
    obtain ⟨u, hu, rfl⟩ := mainStep_eq_next_iff.1 ht
    rw [subStep_tickRegs hu]
    simpa [withTickRegs] using sharedWrites_frame (taken s).mph (taken s).hit (taken s)
  · rw [step_of_mover hfire] at ht
    obtain ⟨-, rfl⟩ | ⟨-, rfl⟩ := fireTurn_eq_next_iff.1 ht
    · exact congrArg timerFire (taken_eq_with_sched_draw s)
    · rw [taken_eq_with_sched_draw s]

end Sys2Proof.Machine
end

section
/-! RESET (70_reset_and_hazards.md R180, R181): its one result, read off for the registers and for what outlasts it. -/

namespace Sys2Proof.Machine

/-- RESET has no other outcome than the reset state of the device's own parameters, with the outside events kept (log entry 20). -/
theorem exec_reset_eq_next_iff {s t : State} :
    exec .reset s = .next t ↔ t = { State.resetOf s.cfg with sched := s.sched, draw := s.draw } := by
  change Host.Outcome.next _ = Host.Outcome.next t ↔ _
  rw [Host.Outcome.next.injEq, eq_comm]

/-- Settles O1: RESET yields the reset state from any state, and a turn of the reset input is RESET whatever was in progress. -/
theorem resetSetsEveryRegister : Obligations.ResetSetsEveryRegister := by
  refine ⟨fun s => ⟨_, exec_reset_eq_next_iff.2 rfl, ?_⟩, fun s hreset => ?_⟩
  · simp [State.resetOf, phase_idle]
  · calc step s = takeTurn .reset (taken s) := step_of_mover hreset
      _ = exec .reset (taken s) := rfl

/-- Settles O2: the reset state is built from the device's own `cfg`, and `sched` and `draw` are put back in it. -/
theorem resetKeepsTheParameters : Obligations.ResetKeepsTheParameters := by
  intro s t ht
  obtain rfl := exec_reset_eq_next_iff.1 ht
  exact ⟨rfl, rfl, rfl, rfl⟩

end Sys2Proof.Machine
end

section
/-! What the tone side refuses: a live task (93_implementation_defined.md U3), and a NOTE entry alone with no melody to move the
cursor in (log entry 11). -/

namespace Sys2Proof.Machine

/-- The NOTE rows, in the note table or outside it, are NOTE entries of some symbol code (30_encoding.md R85). -/
theorem eq_noteOf_of_mem_noteRows {du : BitVec 12} {i : Instr}
    (h : i ∈ (Claims.hitRows du).map Prod.fst ∨ i ∈ Claims.missRows du) : ∃ sym : BitVec 4, i = noteOf sym du := by
  rcases h with hhit | hmiss
  · obtain ⟨⟨_, k⟩, hrow, rfl⟩ := List.mem_map.1 hhit
    exact ⟨_, eq_noteOf_of_mem_hitRows hrow⟩
  · obtain ⟨sym, -, hsym⟩ := eq_noteOf_of_mem_missRows hmiss
    exact ⟨sym, hsym⟩

/-- With a live task the NOTE entry of any symbol code is refused (log entry 10). -/
theorem exec_noteOf_playing {s : State} (sym : BitVec 4) (du : BitVec 12) (h : s.playing = true) :
    exec (noteOf sym du) s = .refused .dispatchWhilePlaying := by
  have hword : decodeNote (du ++ sym) = noteOf sym du := by rw [decodeNote, noteSym_append, noteDu_append]
  exact hword ▸ exec_decodeNote_playing (du ++ sym) h

/-- A selector that names no melody has no length: there are two melodies (93_implementation_defined.md U5, U6). -/
theorem melodyLength_unselected (m : Memory) {sel : Sel} (h : sel = 2 ∨ sel = 3) : melodyLength m sel = none := by
  rcases h with rfl | rfl <;> rfl

/-- With no melody selected S4 has no cursor to move, and stops (log entry 11). -/
theorem subS4_unselected {s : State} (h : s.msel = 2 ∨ s.msel = 3) :
    subS4 s = .refused (.noTableSelected .melody s.msel) := by
  simp only [subS4, melodyLength_unselected s.cfg.mem h]

/-- A NOTE entry alone stops at its cursor move where no melody is selected: the writes of a hit before it leave `MSEL`. -/
theorem exec_noteOf_unselected {s : State} (sym : BitVec 4) (du : BitVec 12) (hidle : s.playing = false)
    (h : s.msel = 2 ∨ s.msel = 3) : exec (noteOf sym du) s = .refused (.noTableSelected .melody s.msel) := by
  rw [exec_noteOf, execNoteOf_eq]
  by_cases hsym : sym.toNat ≤ 9
  · rw [if_pos hsym, noteHit, whenIdle_idle hidle, noteTask_hit s sym du hsym, andThen_next]
    exact subS4_unselected (s := goLive true (writeTask _ du s)) h
  · rw [if_neg hsym, noteMiss, whenIdle_idle hidle, subS4_unselected h]

/-- Settles O21: DISPATCH and the NOTE entries have the same guard on `PLAYING`; past it a NOTE entry stops at its cursor move. -/
theorem notesAreRefusedWhilePlayingOrUnselected : Obligations.NotesAreRefusedWhilePlayingOrUnselected := by
  intro s du i hrow
  rcases hrow with rfl | hnote
  · exact ⟨fun hlive => whenIdle_playing hlive _, fun _ hne => absurd rfl hne⟩
  · obtain ⟨sym, rfl⟩ := eq_noteOf_of_mem_noteRows hnote
    exact ⟨exec_noteOf_playing sym du, fun hidle _ hsel => exec_noteOf_unselected sym du hidle hsel⟩

end Sys2Proof.Machine
end
